-- ==== Sys2Proof/Word.lean ====
section
/-! DEFINITION. The three widths the spec uses (00_scope.md R12: `u8`, `u16`, `u32`). -/

namespace Sys2Proof

/-- `u8` (R12). -/
abbrev Byte := BitVec 8

/-- `u16` (R12). -/
abbrev Half := BitVec 16

/-- `u32` (R12). -/
abbrev Word := BitVec 32

end Sys2Proof
end

