-- ==== Sys2Proof/Machine/Crc.lean ====
section
/-! DEFINITION. CRC-16/MODBUS (40_crc16.md). -/

namespace Sys2Proof.Machine

/-- One of the eight shifts of R101. -/
def crcShift (c : Half) : Half := if c.getLsbD 0 then (c >>> 1) ^^^ 0xA001 else c >>> 1

/-- `n` shifts. -/
def crcShifts : Nat → Half → Half
  | 0, c => c
  | n + 1, c => crcShifts n (crcShift c)

/-- `crc_step` (R103): one byte folded into the register. -/
def crcStep (c : Half) (b : Byte) : Half := crcShifts 8 (c ^^^ b.setWidth 16)

/-- The register after folding in a byte sequence. -/
def crcFold (c : Half) (bytes : List Byte) : Half := bytes.foldl crcStep c

/-- `crc16` (R101). -/
def crc16 (bytes : List Byte) : Half := crcFold 0xFFFF bytes

/-! ### The form without the reflected register (R102), which the block does not use -/

/-- One of the eight shifts of R102. -/
def directShift (r : Half) : Half := if r.getLsbD 15 then (r <<< 1) ^^^ 0x8005 else r <<< 1

/-- `n` shifts. -/
def directShifts : Nat → Half → Half
  | 0, r => r
  | n + 1, r => directShifts n (directShift r)

/-- One byte folded in, its bits in reverse order and in the high half. -/
def directStep (r : Half) (b : Byte) : Half := directShifts 8 (r ^^^ (b.reverse.setWidth 16 <<< 8))

/-- The checksum as R102 states it. -/
def crcDirect (bytes : List Byte) : Half := (bytes.foldl directStep 0xFFFF).reverse

end Sys2Proof.Machine
end

