-- ==== Sys2Proof/Config.lean ====
section
/-! DEFINITION. What an installation of the block fixes before the first byte: the parameters of 00_scope.md R10, the types of the
register look-up table (44_register_decoder.md R180) and its six normative entries (R182). `Config` is no state of the block (R47)
and no step writes it (R285). -/

namespace Sys2Proof

/-- `Q32` (10_state.md R28): the five quantities that arrive as a high word and a low word. -/
inductive Q32 where
  | curGen | activeP | gridP | battP | meterTotalP
  deriving DecidableEq, Repr

/-- The quantity ids of R199 (44_register_decoder.md). -/
inductive Quantity where
  | curGen | activeP | gridP | battP | meterTotalP | battSoc | energyToday | loadP
  deriving DecidableEq, Repr

/-- The unit ids of R199. -/
inductive MeasUnit where
  | watt | kilowatt | kilowattHour | percent
  deriving DecidableEq, Repr

/-- A quantity of `Q32` under its name in R199. -/
def Q32.toQuantity : Q32 → Quantity
  | .curGen => .curGen
  | .activeP => .activeP
  | .gridP => .gridP
  | .battP => .battP
  | .meterTotalP => .meterTotalP

/-- The five quantities of `Q32`, in the order of R28. -/
def Q32.all : List Q32 := [.curGen, .activeP, .gridP, .battP, .meterTotalP]

/-- The eight quantities of R199, in the order of their ids. -/
def Quantity.all : List Quantity :=
  [.curGen, .activeP, .gridP, .battP, .meterTotalP, .battSoc, .energyToday, .loadP]

/-- The quantity numbers of R199. -/
def Quantity.id : Quantity → Nat
  | .curGen => 1
  | .activeP => 2
  | .gridP => 3
  | .battP => 4
  | .meterTotalP => 5
  | .battSoc => 6
  | .energyToday => 7
  | .loadP => 8

/-- The unit numbers of R199. -/
def MeasUnit.id : MeasUnit → Nat
  | .watt => 0
  | .kilowatt => 1
  | .kilowattHour => 2
  | .percent => 3

/-- The exact label strings of R183; `none` where the source gives no exact string. -/
def Quantity.label : Quantity → Option String
  | .curGen => some "Current Generation"
  | .meterTotalP => some "Meter total active power"
  | .activeP => some "Active power"
  | .battSoc => some "Battery capacity SOC"
  | .energyToday => none
  | .gridP => none
  | .battP => none
  | .loadP => none

/-- An entry of the look-up table (R180). That the quantity of a high or low word is in `Q32` (R181 item 2) holds by its type. -/
inductive Entry where
  /-- A whole quantity in one register. -/
  | single (q : Quantity) (signed : Bool) (exp10 : Int) (unit : MeasUnit)
  /-- The high word of a 32-bit quantity. -/
  | high (q : Q32)
  /-- The low word of a 32-bit quantity; its pair is at the address below. -/
  | low (q : Q32) (signed : Bool) (exp10 : Int) (unit : MeasUnit)
  deriving DecidableEq, Repr

/-- `REGMAP` as plain data: (address, entry) pairs, addresses strictly rising (DESIGN CHOICE, log entry 4). -/
abbrev RegMap := List (Half × Entry)

/-- `REGMAP_MIN`, the six entries of R182. -/
def regMapMin : RegMap :=
  [ (0x810B, .single .energyToday false (-1) .kilowattHour),
    (0x8121, .high .curGen),
    (0x8122, .low .curGen false 0 .watt),
    (0x8173, .single .battSoc false 0 .percent),
    (0x81EF, .high .meterTotalP),
    (0x81F0, .low .meterTotalP true (-3) .kilowatt) ]

/-- The parameters of R10 that a rule of the block reads. -/
structure Config where
  /-- `EXPECTED_SLAVE`: any value (R31). -/
  expectedSlave : Byte
  /-- `IS_LIVE`: a live link, else a finite capture. -/
  isLive : Bool
  /-- `FC_RSID`: the function code of "report server id". -/
  fcRsid : Byte
  /-- `REGMAP`. -/
  regMap : RegMap
  deriving DecidableEq, Repr

/-- The configuration that `State.reset` carries: the conventions of 95_test_vectors.md (slave 1, a finite capture, `FC_RSID` 17,
`REGMAP_MIN`). DESIGN CHOICE and, for `FC_RSID`, PRESUMED: log entries 2, 3 and 4. No statement rests on these values. -/
def Config.default : Config :=
  { expectedSlave := 1, isLive := false, fcRsid := 17, regMap := regMapMin }

/-- `FB_SIZE` (R10, 20_memory.md R56). -/
def frameBufferSize : Nat := 264

/-- The largest value of the 32-bit counter `skipped` (R10 `SKIPPED_WIDTH`, 10_state.md R26). -/
def skippedMax : Nat := 0xFFFFFFFF

/-- `QUIET_PERIOD` in seconds (R10): the platform's timer counts it, no rule of the block reads it. -/
def quietPeriodSeconds : Nat := 30

end Sys2Proof
end

