-- ==== Sys2Proof/Syntax.lean ====
section
/-! DEFINITION. The instructions: one constructor per row of spec/opcode_table.json (30_encoding.md R90). A frame kind carries the
fields of its format that its bytes do not fix; the slave byte is the configuration's and is no operand. -/

namespace Sys2Proof

/-- The position a frame is read in: request or response. -/
inductive Dir where
  | req | rsp
  deriving DecidableEq, Repr

/-- One constructor per row of the opcode table, and three for the rows that a larger `REGMAP` adds (30_encoding.md R90). -/
inductive Instr where
  -- REQ_FIXED (R77): start address, the two unused bytes, the received CRC.
  | reqF01 (addr : Half) (p2 p3 : Byte) (crc : Half)
  | reqF02 (addr : Half) (p2 p3 : Byte) (crc : Half)
  | reqF03 (addr : Half) (p2 p3 : Byte) (crc : Half)
  | reqF04 (addr : Half) (p2 p3 : Byte) (crc : Half)
  | reqF05 (addr : Half) (p2 p3 : Byte) (crc : Half)
  | reqF06 (addr : Half) (p2 p3 : Byte) (crc : Half)
  -- REQ_VAR (R78): start address, the unused quantity, the data bytes, the received CRC.
  | reqF15 (addr q : Half) (data : List Byte) (crc : Half)
  | reqF16 (addr q : Half) (data : List Byte) (crc : Half)
  -- A header in request position that has no request layout (R139, R140).
  | reqRsid
  | reqExcF01
  | reqExcF02
  | reqExcF03
  | reqExcF04
  | reqExcF05
  | reqExcF06
  | reqExcF15
  | reqExcF16
  | reqExcF17
  -- RSP_NORMAL (R79): the payload bytes, the received CRC.
  | rspF01 (payload : List Byte) (crc : Half)
  | rspF02 (payload : List Byte) (crc : Half)
  | rspF03 (payload : List Byte) (crc : Half)
  | rspF04 (payload : List Byte) (crc : Half)
  | rspF05 (payload : List Byte) (crc : Half)
  | rspF06 (payload : List Byte) (crc : Half)
  | rspF15 (payload : List Byte) (crc : Half)
  | rspF16 (payload : List Byte) (crc : Half)
  | rspF17 (payload : List Byte) (crc : Half)
  -- RSP_EXC (R81): the error code, the received CRC.
  | rspxF01 (err : Byte) (crc : Half)
  | rspxF02 (err : Byte) (crc : Half)
  | rspxF03 (err : Byte) (crc : Half)
  | rspxF04 (err : Byte) (crc : Half)
  | rspxF05 (err : Byte) (crc : Half)
  | rspxF06 (err : Byte) (crc : Half)
  | rspxF15 (err : Byte) (crc : Half)
  | rspxF16 (err : Byte) (crc : Half)
  | rspxF17 (err : Byte) (crc : Half)
  -- A header whose function byte the synchroniser rejects (R119).
  | noiseReq (f : Byte)
  | noiseRsp (f : Byte)
  -- A register sample at a mapped address (R192 to R197), or at an unmapped one (R190).
  | energyToday (value : Half)
  | curGenHi (value : Half)
  | curGenLo (value : Half)
  | battSoc (value : Half)
  | meterHi (value : Half)
  | meterLo (value : Half)
  | unmapped (addr value : Half)
  -- The rows that the entries of `REGMAP` beyond `REGMAP_MIN` add (R90; 44_register_decoder.md R191), one constructor per kind of entry
  -- (R180): the row's address, what its entry says, the value (DESIGN CHOICE, log entry 13).
  | openSingle (addr : Half) (q : Quantity) (signed : Bool) (exp10 : Int) (unit : MeasUnit) (value : Half)
  | openHigh (addr : Half) (q : Q32) (value : Half)
  | openLow (addr : Half) (q : Q32) (signed : Bool) (exp10 : Int) (unit : MeasUnit) (value : Half)
  deriving DecidableEq, Repr

end Sys2Proof
end

