-- ==== Sys2Proof/Decode.lean ====
section
/-! DEFINITION. Decoding and encoding: the bytes of a frame in its position (30_encoding.md R75 to R82), and a register sample by its
address (44_register_decoder.md R184), to an instruction or a rejection by name. Also the byte-order and bit-field helpers and the
synchroniser's acceptance test. -/

namespace Sys2Proof

/-- Two bytes as a 16-bit value, the first in the more significant position (20_memory.md R60, R61). -/
def joinBytes (hi lo : Byte) : Half := hi ++ lo

/-- `v[15:8]`. -/
def hiByte (v : Half) : Byte := v.extractLsb' 8 8

/-- `v[7:0]`. -/
def loByte (v : Half) : Byte := v.extractLsb' 0 8

/-- The exception flag `f[7]` of a function byte (R76). -/
def exceptionFlag (f : Byte) : Bool := f.getLsbD 7

/-- The function code `f[6:0]` of a function byte, as a byte (R76). -/
def functionCode (f : Byte) : Byte := f &&& 0x7F

/-- `KNOWN_FN` (00_scope.md R10). -/
def knownFn (cfg : Config) : List Byte := [1, 2, 3, 4, 5, 6, 15, 16, cfg.fcRsid]

/-- `SyncAccept` (41_frame_sync.md R116): membership of the masked function byte in `KNOWN_FN`. -/
def syncAccept (cfg : Config) (b : Byte) : Bool := decide (functionCode b ∈ knownFn cfg)

/-- The entry of a register map at an address (R59, R180). -/
def lookupEntry : RegMap → Half → Option Entry
  | [], _ => none
  | (k, e) :: rest, a => if k = a then some e else lookupEntry rest a

/-- What stands to be decoded: the bytes of a frame in a position, or a register sample. -/
inductive Code where
  | frame (d : Dir) (bytes : List Byte)
  | sample (addr value : Half)
  deriving DecidableEq, Repr

/-- Why bytes are not (yet) an instruction. -/
inductive DecodeError where
  /-- The bytes end before the frame does. -/
  | truncated
  /-- The first byte is not `EXPECTED_SLAVE` (R76, R87): no frame starts here. -/
  | wrongSlave (b : Byte)
  /-- A function byte with no row; unreachable for a well-formed configuration (R85). -/
  | unknownFunction (f : Byte)
  deriving DecidableEq, Repr

/-! ### Selection by function byte (R80, R82) -/

/-- The rows of format REQ_FIXED (R131 to R136). -/
def fixedRequest (f : Byte) : Option (Half → Byte → Byte → Half → Instr) :=
  if f = 0x01 then some .reqF01
  else if f = 0x02 then some .reqF02
  else if f = 0x03 then some .reqF03
  else if f = 0x04 then some .reqF04
  else if f = 0x05 then some .reqF05
  else if f = 0x06 then some .reqF06
  else none

/-- The rows of format REQ_VAR (R137, R138). -/
def varRequest (f : Byte) : Option (Half → Half → List Byte → Half → Instr) :=
  if f = 0x0F then some .reqF15
  else if f = 0x10 then some .reqF16
  else none

/-- The rows of a known function byte without a request layout (R139, R140). -/
def bareRequest (cfg : Config) (f : Byte) : Option Instr :=
  if f = 0x81 then some .reqExcF01
  else if f = 0x82 then some .reqExcF02
  else if f = 0x83 then some .reqExcF03
  else if f = 0x84 then some .reqExcF04
  else if f = 0x85 then some .reqExcF05
  else if f = 0x86 then some .reqExcF06
  else if f = 0x8F then some .reqExcF15
  else if f = 0x90 then some .reqExcF16
  else if f = cfg.fcRsid then some .reqRsid
  else if f = 0x80 ||| cfg.fcRsid then some .reqExcF17
  else none

/-- The rows of format RSP_NORMAL (R161, R172). -/
def normalResponse (cfg : Config) (f : Byte) : Option (List Byte → Half → Instr) :=
  if f = 0x01 then some .rspF01
  else if f = 0x02 then some .rspF02
  else if f = 0x03 then some .rspF03
  else if f = 0x04 then some .rspF04
  else if f = 0x05 then some .rspF05
  else if f = 0x06 then some .rspF06
  else if f = 0x0F then some .rspF15
  else if f = 0x10 then some .rspF16
  else if f = cfg.fcRsid then some .rspF17
  else none

/-- The rows of format RSP_EXC (R160, R173). -/
def exceptionResponse (cfg : Config) (f : Byte) : Option (Byte → Half → Instr) :=
  if f = 0x81 then some .rspxF01
  else if f = 0x82 then some .rspxF02
  else if f = 0x83 then some .rspxF03
  else if f = 0x84 then some .rspxF04
  else if f = 0x85 then some .rspxF05
  else if f = 0x86 then some .rspxF06
  else if f = 0x8F then some .rspxF15
  else if f = 0x90 then some .rspxF16
  else if f = 0x80 ||| cfg.fcRsid then some .rspxF17
  else none

/-! ### The formats (R77, R78, R79, R81), after the two header bytes -/

/-- REQ_FIXED: `addr_hi addr_lo p2 p3 crc_lo crc_hi`. -/
def decodeFixed (mk : Half → Byte → Byte → Half → Instr) :
    List Byte → Except DecodeError (Instr × List Byte)
  | ah :: al :: p2 :: p3 :: cl :: ch :: rest =>
    .ok (mk (joinBytes ah al) p2 p3 (joinBytes ch cl), rest)
  | _ => .error .truncated

/-- REQ_VAR: `addr_hi addr_lo q_hi q_lo byte_count`, then the data bytes and the CRC. -/
def decodeVar (mk : Half → Half → List Byte → Half → Instr) :
    List Byte → Except DecodeError (Instr × List Byte)
  | ah :: al :: qh :: ql :: bc :: body =>
    match body.drop bc.toNat with
    | cl :: ch :: rest =>
      .ok (mk (joinBytes ah al) (joinBytes qh ql) (body.take bc.toNat) (joinBytes ch cl), rest)
    | _ => .error .truncated
  | _ => .error .truncated

/-- RSP_NORMAL: the byte count, then the payload and the CRC. -/
def decodeNormal (mk : List Byte → Half → Instr) :
    List Byte → Except DecodeError (Instr × List Byte)
  | bc :: body =>
    match body.drop bc.toNat with
    | cl :: ch :: rest => .ok (mk (body.take bc.toNat) (joinBytes ch cl), rest)
    | _ => .error .truncated
  | _ => .error .truncated

/-- RSP_EXC: the error code and the CRC. -/
def decodeException (mk : Byte → Half → Instr) :
    List Byte → Except DecodeError (Instr × List Byte)
  | err :: cl :: ch :: rest => .ok (mk err (joinBytes ch cl), rest)
  | _ => .error .truncated

/-- After an accepted header in request position (R80). -/
def decodeRequestBody (cfg : Config) (f : Byte) (body : List Byte) :
    Except DecodeError (Instr × List Byte) :=
  match fixedRequest f with
  | some mk => decodeFixed mk body
  | none =>
    match varRequest f with
    | some mk => decodeVar mk body
    | none =>
      match bareRequest cfg f with
      | some i => .ok (i, body)
      | none => .error (.unknownFunction f)

/-- After an accepted header in response position (R82). -/
def decodeResponseBody (cfg : Config) (f : Byte) (body : List Byte) :
    Except DecodeError (Instr × List Byte) :=
  match normalResponse cfg f with
  | some mk => decodeNormal mk body
  | none =>
    match exceptionResponse cfg f with
    | some mk => decodeException mk body
    | none => .error (.unknownFunction f)

/-- A frame in request position: the instruction and the bytes after it. -/
def decodeRequest (cfg : Config) : List Byte → Except DecodeError (Instr × List Byte)
  | slave :: f :: body =>
    if slave = cfg.expectedSlave then
      if syncAccept cfg f then decodeRequestBody cfg f body else .ok (.noiseReq f, body)
    else .error (.wrongSlave slave)
  | _ => .error .truncated

/-- A frame in response position: the instruction and the bytes after it. -/
def decodeResponse (cfg : Config) : List Byte → Except DecodeError (Instr × List Byte)
  | slave :: f :: body =>
    if slave = cfg.expectedSlave then
      if syncAccept cfg f then decodeResponseBody cfg f body else .ok (.noiseRsp f, body)
    else .error (.wrongSlave slave)
  | _ => .error .truncated

/-! ### Samples (R184, R190 to R197) -/

/-- The row that a sample address selects: one of the six rows of `REGMAP_MIN`, `UNMAPPED`, or a row that a further entry of `REGMAP`
adds (R90, R191, log entry 13), with what the entry says. -/
inductive RegRow where
  | energyToday | curGenHi | curGenLo | battSoc | meterHi | meterLo | unmapped
  | openSingle (q : Quantity) (signed : Bool) (exp10 : Int) (unit : MeasUnit)
  | openHigh (q : Q32)
  | openLow (q : Q32) (signed : Bool) (exp10 : Int) (unit : MeasUnit)
  deriving DecidableEq, Repr

/-- The row that an entry beyond `REGMAP_MIN` adds, by its kind (R90, R180). -/
def openRow : Entry → RegRow
  | .single q signed exp10 unit => .openSingle q signed exp10 unit
  | .high q => .openHigh q
  | .low q signed exp10 unit => .openLow q signed exp10 unit

/-- Selection by address (R184, R190). -/
def regRow (cfg : Config) (addr : Half) : RegRow :=
  match lookupEntry cfg.regMap addr with
  | none => .unmapped
  | some e =>
    if addr = 0x810B then .energyToday
    else if addr = 0x8121 then .curGenHi
    else if addr = 0x8122 then .curGenLo
    else if addr = 0x8173 then .battSoc
    else if addr = 0x81EF then .meterHi
    else if addr = 0x81F0 then .meterLo
    else openRow e

/-- A register sample as an instruction. Every address has a row. -/
def decodeSample (cfg : Config) (addr value : Half) : Instr :=
  match regRow cfg addr with
  | .energyToday => .energyToday value
  | .curGenHi => .curGenHi value
  | .curGenLo => .curGenLo value
  | .battSoc => .battSoc value
  | .meterHi => .meterHi value
  | .meterLo => .meterLo value
  | .unmapped => .unmapped addr value
  | .openSingle q signed exp10 unit => .openSingle addr q signed exp10 unit value
  | .openHigh q => .openHigh addr q value
  | .openLow q signed exp10 unit => .openLow addr q signed exp10 unit value

/-- The decoder, total on any code: the instruction and the bytes that follow it, or a rejection by name. -/
def decode (cfg : Config) : Code → Except DecodeError (Instr × List Byte)
  | .frame .req bytes => decodeRequest cfg bytes
  | .frame .rsp bytes => decodeResponse cfg bytes
  | .sample addr value => .ok (decodeSample cfg addr value, [])

/-! ### The encoder (R77, R78, R79, R81, R88) -/

/-- The bytes after the header of a REQ_FIXED frame, less its CRC. -/
def fixedBody (addr : Half) (p2 p3 : Byte) : List Byte := [hiByte addr, loByte addr, p2, p3]

/-- The bytes after the header of a REQ_VAR frame, less its CRC. The byte count is the number of data bytes. -/
def varBody (addr q : Half) (data : List Byte) : List Byte :=
  hiByte addr :: loByte addr :: hiByte q :: loByte q :: BitVec.ofNat 8 data.length :: data

/-- The bytes after the header of an RSP_NORMAL frame, less its CRC. -/
def normalBody (payload : List Byte) : List Byte := BitVec.ofNat 8 payload.length :: payload

/-- A whole frame: header, body, CRC with its low byte first (20_memory.md R62). -/
def frameOf (cfg : Config) (f : Byte) (body : List Byte) (crc : Half) : List Byte :=
  cfg.expectedSlave :: f :: (body ++ [loByte crc, hiByte crc])

/-- A frame kind that ends with its header. -/
def bareFrame (cfg : Config) (f : Byte) : List Byte := [cfg.expectedSlave, f]

/-- The code of an instruction: its frame in its position, or its register sample. -/
def encode (cfg : Config) : Instr → Code
  | .reqF01 a p2 p3 c => .frame .req (frameOf cfg 0x01 (fixedBody a p2 p3) c)
  | .reqF02 a p2 p3 c => .frame .req (frameOf cfg 0x02 (fixedBody a p2 p3) c)
  | .reqF03 a p2 p3 c => .frame .req (frameOf cfg 0x03 (fixedBody a p2 p3) c)
  | .reqF04 a p2 p3 c => .frame .req (frameOf cfg 0x04 (fixedBody a p2 p3) c)
  | .reqF05 a p2 p3 c => .frame .req (frameOf cfg 0x05 (fixedBody a p2 p3) c)
  | .reqF06 a p2 p3 c => .frame .req (frameOf cfg 0x06 (fixedBody a p2 p3) c)
  | .reqF15 a q data c => .frame .req (frameOf cfg 0x0F (varBody a q data) c)
  | .reqF16 a q data c => .frame .req (frameOf cfg 0x10 (varBody a q data) c)
  | .reqRsid => .frame .req (bareFrame cfg cfg.fcRsid)
  | .reqExcF01 => .frame .req (bareFrame cfg 0x81)
  | .reqExcF02 => .frame .req (bareFrame cfg 0x82)
  | .reqExcF03 => .frame .req (bareFrame cfg 0x83)
  | .reqExcF04 => .frame .req (bareFrame cfg 0x84)
  | .reqExcF05 => .frame .req (bareFrame cfg 0x85)
  | .reqExcF06 => .frame .req (bareFrame cfg 0x86)
  | .reqExcF15 => .frame .req (bareFrame cfg 0x8F)
  | .reqExcF16 => .frame .req (bareFrame cfg 0x90)
  | .reqExcF17 => .frame .req (bareFrame cfg (0x80 ||| cfg.fcRsid))
  | .rspF01 p c => .frame .rsp (frameOf cfg 0x01 (normalBody p) c)
  | .rspF02 p c => .frame .rsp (frameOf cfg 0x02 (normalBody p) c)
  | .rspF03 p c => .frame .rsp (frameOf cfg 0x03 (normalBody p) c)
  | .rspF04 p c => .frame .rsp (frameOf cfg 0x04 (normalBody p) c)
  | .rspF05 p c => .frame .rsp (frameOf cfg 0x05 (normalBody p) c)
  | .rspF06 p c => .frame .rsp (frameOf cfg 0x06 (normalBody p) c)
  | .rspF15 p c => .frame .rsp (frameOf cfg 0x0F (normalBody p) c)
  | .rspF16 p c => .frame .rsp (frameOf cfg 0x10 (normalBody p) c)
  | .rspF17 p c => .frame .rsp (frameOf cfg cfg.fcRsid (normalBody p) c)
  | .rspxF01 e c => .frame .rsp (frameOf cfg 0x81 [e] c)
  | .rspxF02 e c => .frame .rsp (frameOf cfg 0x82 [e] c)
  | .rspxF03 e c => .frame .rsp (frameOf cfg 0x83 [e] c)
  | .rspxF04 e c => .frame .rsp (frameOf cfg 0x84 [e] c)
  | .rspxF05 e c => .frame .rsp (frameOf cfg 0x85 [e] c)
  | .rspxF06 e c => .frame .rsp (frameOf cfg 0x86 [e] c)
  | .rspxF15 e c => .frame .rsp (frameOf cfg 0x8F [e] c)
  | .rspxF16 e c => .frame .rsp (frameOf cfg 0x90 [e] c)
  | .rspxF17 e c => .frame .rsp (frameOf cfg (0x80 ||| cfg.fcRsid) [e] c)
  | .noiseReq f => .frame .req (bareFrame cfg f)
  | .noiseRsp f => .frame .rsp (bareFrame cfg f)
  | .energyToday v => .sample 0x810B v
  | .curGenHi v => .sample 0x8121 v
  | .curGenLo v => .sample 0x8122 v
  | .battSoc v => .sample 0x8173 v
  | .meterHi v => .sample 0x81EF v
  | .meterLo v => .sample 0x81F0 v
  | .unmapped a v => .sample a v
  | .openSingle a _ _ _ _ v => .sample a v
  | .openHigh a _ v => .sample a v
  | .openLow a _ _ _ _ v => .sample a v

/-! ### The opcode table's words -/

/-- The `n` low bytes of a number, the least significant first. -/
def bytesOf : Nat → Nat → List Byte
  | 0, _ => []
  | n + 1, w => BitVec.ofNat 8 w :: bytesOf n (w / 256)

/-- The frame in request position whose bytes from the function byte on are those of a table word, low byte first, and zeros from
there to the longest frame (264 bytes). The table's `match` covers `fb[1]` (R90), so the slave byte stands before the word. -/
def tableFrame (cfg : Config) (nbits w : Nat) : List Byte :=
  cfg.expectedSlave :: (bytesOf ((nbits + 7) / 8) w ++ List.replicate 263 0).take 263

/-- The instruction the decoder reads from a word of spec/opcode_table.json. A 16-bit word is a sample address, the value being 0;
any other is the function byte of a frame in request position, the position of the reset state (log entry 11). -/
def decodeTableWord (nbits w : Nat) : Option Instr :=
  if nbits = 16 then some (decodeSample Config.default (BitVec.ofNat 16 w) 0)
  else ((decodeRequest Config.default (tableFrame Config.default nbits w)).toOption).map Prod.fst

end Sys2Proof
end

