-- ==== Sys2Proof/WellFormed.lean ====
section
/-! DEFINITION. Which configurations the rules are stated for (00_scope.md R11, 44_register_decoder.md R181), and which instructions
some bytes encode under a configuration. -/

namespace Sys2Proof

/-- Addresses strictly rising: no address has two entries (R181, last sentence). -/
def addressesRise : RegMap → Bool
  | [] => true
  | [_] => true
  | (a, _) :: (b, e) :: rest => decide (a.toNat < b.toNat) && addressesRise ((b, e) :: rest)

/-- R181 item 1. -/
def containsMin (m : RegMap) : Bool :=
  regMapMin.all (fun p => decide (lookupEntry m p.1 = some p.2))

/-- R181 items 2 and 5 on one entry: a single-register quantity is not in `Q32`, and `exp10` is 0, -1, -2 or -3. -/
def entryOk : Entry → Bool
  | .single q _ e _ => decide (q ∉ Q32.all.map Q32.toQuantity) && decide (e ∈ [0, -1, -2, -3])
  | .high _ => true
  | .low _ _ e _ => decide (e ∈ [0, -1, -2, -3])

/-- The addresses, as numbers, of the high-word entries of a quantity. -/
def highAddrs (m : RegMap) (q : Q32) : List Nat :=
  (m.filter (fun p => match p.2 with | .high q' => decide (q' = q) | _ => false)).map (·.1.toNat)

/-- The addresses, as numbers, of the low-word entries of a quantity. -/
def lowAddrs (m : RegMap) (q : Q32) : List Nat :=
  (m.filter (fun p => match p.2 with | .low q' _ _ _ => decide (q' = q) | _ => false)).map (·.1.toNat)

/-- The addresses, as numbers, of the single-register entries of a quantity. -/
def singleAddrs (m : RegMap) (q : Quantity) : List Nat :=
  (m.filter (fun p => match p.2 with | .single q' _ _ _ => decide (q' = q) | _ => false)).map (·.1.toNat)

/-- R181 item 3: no entry mentions the quantity, or one high word and, at the next address, one low word. -/
def pairOk (m : RegMap) (q : Q32) : Bool :=
  match highAddrs m q, lowAddrs m q with
  | [], [] => true
  | [h], [l] => decide (h ≤ 65534) && decide (l = h + 1)
  | _, _ => false

/-- R181 item 4. -/
def singleOk (m : RegMap) (q : Quantity) : Bool := decide ((singleAddrs m q).length ≤ 1)

/-- A register map is well-formed (R181). -/
def regMapWf (m : RegMap) : Bool :=
  addressesRise m && containsMin m && m.all (fun p => entryOk p.2) && Q32.all.all (pairOk m)
    && Quantity.all.all (singleOk m)

/-- `FC_RSID` is a 7-bit code and none of the other known codes (R11). -/
def fcRsidOk (c : Byte) : Bool :=
  decide (c.toNat ≤ 127) && decide (c ∉ ([1, 2, 3, 4, 5, 6, 15, 16] : List Byte))

/-- A configuration is well-formed (R11). -/
def Config.wf (cfg : Config) : Bool := regMapWf cfg.regMap && fcRsidOk cfg.fcRsid

/-- `REGMAP` has this entry at this address, and it is none of the six addresses of `REGMAP_MIN`. -/
def openEntryAt (cfg : Config) (addr : Half) (e : Entry) : Bool :=
  decide (lookupEntry cfg.regMap addr = some e) && decide (lookupEntry regMapMin addr = none)

/-- An instruction some bytes encode: at most 255 data or payload bytes (R78, R79), a noise byte that the synchroniser rejects
(R119), an unmapped address that has no entry (R190), an open row whose address has that entry and is none of the table's (R90). -/
def Instr.wf (cfg : Config) : Instr → Bool
  | .reqF01 _ _ _ _ => true
  | .reqF02 _ _ _ _ => true
  | .reqF03 _ _ _ _ => true
  | .reqF04 _ _ _ _ => true
  | .reqF05 _ _ _ _ => true
  | .reqF06 _ _ _ _ => true
  | .reqF15 _ _ data _ => decide (data.length ≤ 255)
  | .reqF16 _ _ data _ => decide (data.length ≤ 255)
  | .reqRsid => true
  | .reqExcF01 => true
  | .reqExcF02 => true
  | .reqExcF03 => true
  | .reqExcF04 => true
  | .reqExcF05 => true
  | .reqExcF06 => true
  | .reqExcF15 => true
  | .reqExcF16 => true
  | .reqExcF17 => true
  | .rspF01 p _ => decide (p.length ≤ 255)
  | .rspF02 p _ => decide (p.length ≤ 255)
  | .rspF03 p _ => decide (p.length ≤ 255)
  | .rspF04 p _ => decide (p.length ≤ 255)
  | .rspF05 p _ => decide (p.length ≤ 255)
  | .rspF06 p _ => decide (p.length ≤ 255)
  | .rspF15 p _ => decide (p.length ≤ 255)
  | .rspF16 p _ => decide (p.length ≤ 255)
  | .rspF17 p _ => decide (p.length ≤ 255)
  | .rspxF01 _ _ => true
  | .rspxF02 _ _ => true
  | .rspxF03 _ _ => true
  | .rspxF04 _ _ => true
  | .rspxF05 _ _ => true
  | .rspxF06 _ _ => true
  | .rspxF15 _ _ => true
  | .rspxF16 _ _ => true
  | .rspxF17 _ _ => true
  | .noiseReq f => !syncAccept cfg f
  | .noiseRsp f => !syncAccept cfg f
  | .energyToday _ => true
  | .curGenHi _ => true
  | .curGenLo _ => true
  | .battSoc _ => true
  | .meterHi _ => true
  | .meterLo _ => true
  | .unmapped a _ => decide (lookupEntry cfg.regMap a = none)
  | .openSingle a q signed exp10 unit _ => openEntryAt cfg a (.single q signed exp10 unit)
  | .openHigh a q _ => openEntryAt cfg a (.high q)
  | .openLow a q signed exp10 unit _ => openEntryAt cfg a (.low q signed exp10 unit)

end Sys2Proof
end

