-- ==== Sys2Proof/Machine/State.lean ====
section
/-! DEFINITION. The state of the block as plain data (10_state.md R20), its input and output events (R9, R44), the reasons a step can
stop, and the state after reset (R46). -/

namespace Sys2Proof.Machine

/-- The eleven values of the phase register `ph` (R21). -/
inductive Phase where
  | reqSyncId | reqSyncFn | reqPrefix | reqBody
  | rspSyncId | rspSyncFn | rspBc | rspExc | rspBody
  | resync | halted
  deriving DecidableEq, Repr

/-- The failure causes (60_exceptions.md R240); codes 6 and 7 are never written, so six values (U17). -/
inductive Cause where
  | none | shortRead | checksumMismatch | unsupportedFunction | syncLost | ioError
  deriving DecidableEq, Repr

/-- What a failure records, by cause (R241). -/
inductive FailInfo where
  | shortRead (ph : Phase) (len need : Nat)
  | checksumMismatch (crcCalc crcRx : Half)
  | unsupportedFunction (fn : Byte)
  | syncLost (ph : Phase) (skipped : Word)
  | ioError (ph : Phase)
  deriving DecidableEq, Repr

/-- The input events (00_scope.md R9). -/
inductive InEvent where
  | byte (b : Byte)
  | short
  | ioErr
  | quiet
  | reset
  deriving DecidableEq, Repr

/-- The output events (10_state.md R44). -/
inductive OutEvent where
  | header (dir : Dir) (fn : Byte) (skipped : Word)
  | reqFrame (fn : Byte) (addr : Half) (bc : Option Byte) (valid : Bool) (crcCalc crcRx : Half)
  | rspFrame (fn bc : Byte) (valid : Bool) (crcCalc crcRx : Half) (fnMatch : Bool)
  | excFrame (fn err : Byte) (valid : Bool) (crcCalc crcRx : Half) (fnMatch : Bool)
  | meas (q : Quantity) (value : Int) (exp10 : Int) (unit : MeasUnit)
  | lowWithoutHigh (q : Q32)
  | fail (cause : Cause) (info : FailInfo)
  | quietArm
  | resynced
  | halt (cause : Cause)
  deriving DecidableEq, Repr

/-- One value for each quantity of `Q32` (R28). -/
structure PerQ32 (α : Type) where
  curGen : α
  activeP : α
  gridP : α
  battP : α
  meterTotalP : α
  deriving DecidableEq, Repr

/-- The frame buffer: (index, byte) pairs, indexes strictly rising, one for each byte of the frame in progress (R27, R56). -/
abbrev Memory := List Host.Cell

/-- What an index that is not listed reads as: no value. No rule reads one (R27); the machine faults if one is read (log entry 9). -/
def unlistedByte : Option Byte := none

/-- The canonical form of the frame buffer: indexes strictly rising and inside the 264 bytes of R56. An unlisted index has no value,
so no cell can repeat what an unlisted index reads as. -/
def Memory.wf : Memory → Bool
  | [] => true
  | [(a, _)] => decide (a < frameBufferSize)
  | (a, _) :: (b, y) :: rest => decide (a < b) && Memory.wf ((b, y) :: rest)

/-- The state: R20's tuple, and three fields of the model's own, `cfg`, `inp` and `out` (log entries 1, 5 and 7). -/
structure State where
  /-- The configuration; no step writes it (70_reset_and_hazards.md R285). -/
  cfg : Config
  /-- The phase register (R21). -/
  ph : Phase
  /-- Bytes of the frame in progress held in `fb` (R22). -/
  len : Nat
  /-- Bytes still to be read in the current fixed-length read (R23). -/
  need : Nat
  /-- The frame buffer (R27). -/
  fb : Memory
  /-- Function byte of the frame in progress (R24). -/
  fn : Byte
  /-- Function byte of the last valid request (R25). -/
  reqFn : Byte
  /-- Start address of the last valid request (R25). -/
  reqAddr : Half
  /-- Bytes discarded by the header search in progress, saturating (R26). -/
  skipped : Word
  /-- The accumulators: pending high words, already shifted (R28). -/
  acc : PerQ32 Word
  /-- Whether an accumulator holds a pending high word (R28, R29). -/
  pend : PerQ32 Bool
  /-- CRC computed over the last completed frame (R30). -/
  crcCalc : Half
  /-- CRC received with the last completed frame (R30). -/
  crcRx : Half
  /-- Cause of the most recent failure (R30). -/
  failCause : Cause
  /-- The phase in which the most recent failure was raised (R30). -/
  failPh : Phase
  /-- The cause that ended the run (R30). -/
  haltCause : Cause
  /-- The run ended at a transaction boundary with nothing skipped (R30). -/
  cleanEof : Bool
  /-- The events that are still to arrive, the first one first (R9, R40). -/
  inp : List InEvent
  /-- The output events of the latest step, in order (R8, R44). -/
  out : List OutEvent
  deriving DecidableEq, Repr

/-- What the fetch of a byte leaves: an instruction still incomplete, or one whose last byte this was. -/
inductive Fetched where
  | more (s : State)
  | complete (i : Instr) (s : State)
  deriving DecidableEq, Repr

/-- Why a step stops with a fault. The spec's failures are no faults: they are taken (60_exceptions.md R250). -/
inductive Fault where
  /-- A write at an index outside the 264 bytes of the frame buffer (20_memory.md R56 "No rule writes beyond index 263"). Raised by
  `putByte`; unreachable under the phase invariants of R33. Safe: the machine stops where the spec has no byte to write. -/
  | frameBufferFull (index : Nat)
  /-- A read of an index that holds no byte of the frame in progress (10_state.md R27). Raised by `readFrame` and the prefix of a
  request; unreachable under the phase invariants of R33. Safe: the spec has no value there. -/
  | frameByteAbsent (index : Nat)
  deriving DecidableEq, Repr

/-- Why a step is refused. -/
inductive Refusal where
  /-- An instruction without a meaning; raised by no arm of `exec`. Safe. -/
  | notModelled (mnemonic : String)
  /-- The configuration is not well-formed: "a model refuses an ill-formed one" (00_scope.md R11, U11). Raised by `step`. Safe. -/
  | illFormedConfig
  /-- A frame ended and its bytes do not decode. Raised by `decodeWhole`; reachable only from a state that breaks the phase
  invariants of R33. Safe. -/
  | undecodable (e : DecodeError)
  /-- A frame ended and bytes stand after the instruction they decode to. Raised by `decodeWhole`; reachable only from a state that
  breaks the phase invariants of R33. Safe. -/
  | frameNotWhole
  deriving DecidableEq, Repr

/-- The outcome of an operation of this machine. -/
abbrev Result (α : Type) := Host.Outcome α Fault Refusal

/-- The machine right after reset (R46, 70_reset_and_hazards.md R280), with nothing arriving (log entry 5) and the default
configuration (log entries 2, 3 and 4). -/
def State.reset : State :=
  { cfg := Config.default
    ph := .reqSyncId
    len := 0
    need := 0
    fb := []
    fn := 0
    reqFn := 0
    reqAddr := 0
    skipped := 0
    acc := ⟨0, 0, 0, 0, 0⟩
    pend := ⟨false, false, false, false, false⟩
    crcCalc := 0
    crcRx := 0
    failCause := .none
    failPh := .reqSyncId
    haltCause := .none
    cleanEof := false
    inp := []
    out := [] }

end Sys2Proof.Machine
end

