-- ==== Sys2Proof/Machine/Operands.lean ====
section
/-! DEFINITION. How values are assembled from a frame's bytes (30_encoding.md R83) and read as numbers
(44_register_decoder.md R184, R189). -/

namespace Sys2Proof.Machine

/-- The register samples of a payload (43_response_parser.md R165, R166): big-endian words at rising addresses, modulo 65536; the
odd last byte belongs to no sample (20_memory.md R65). -/
def samples (addr : Half) : List Byte → List (Half × Half)
  | hi :: lo :: rest => (addr, joinBytes hi lo) :: samples (addr + 1) rest
  | _ => []

/-- `val16` (R184). -/
def val16 (signed : Bool) (v : Half) : Int := if signed then v.toInt else (v.toNat : Int)

/-- `val32` (R184). -/
def val32 (signed : Bool) (t : Word) : Int := if signed then t.toInt else (t.toNat : Int)

/-- A high word as the accumulator holds it: `zext_32(value) << 16` (R186). -/
def highWord (v : Half) : Word := v.setWidth 32 <<< 16

/-- The sum of R187, modulo 2^32. -/
def joinWords (acc : Word) (low : Half) : Word := acc + low.setWidth 32

/-- `sat32(c + n)` (41_frame_sync.md R117). -/
def addSaturating (c : Word) (n : Nat) : Word := BitVec.ofNat 32 (min (c.toNat + n) skippedMax)

/-- The bytes of a whole frame that its CRC covers: all but the last two (40_crc16.md R104, R105). -/
def coveredBytes (frame : List Byte) : List Byte := frame.take (frame.length - 2)

/-- The CRC a whole frame carries: its last byte high, the one before it low (20_memory.md R62). -/
def receivedCrc (frame : List Byte) : Half :=
  joinBytes (frame.getD (frame.length - 1) 0) (frame.getD (frame.length - 2) 0)

/-- The registers a quantity is read from, first and last (44_register_decoder.md R200). -/
def addressRange (m : RegMap) (q : Quantity) : Option (Half × Half) :=
  match m.find? (fun p =>
    match p.2 with
    | .single q' _ _ _ => decide (q' = q)
    | .high q' => decide (q'.toQuantity = q)
    | .low _ _ _ _ => false) with
  | some (a, .high _) => some (a, a + 1)
  | some (a, _) => some (a, a)
  | none => none

end Sys2Proof.Machine
end

