-- ==== Sys2Proof/Machine/Flags.lean ====
section
/-! DEFINITION. The values that behave as flags (10_state.md R29), the failure codes (60_exceptions.md R240) and the modes read off the
phase register (R32, R257). -/

namespace Sys2Proof.Machine

/-- `valid` (40_crc16.md R104): the 16 bits agree. -/
def crcValid (crcCalc crcRx : Half) : Bool := decide (crcCalc = crcRx)

/-- `valid` of a whole frame, from its bytes (R104). -/
def frameValid (frame : List Byte) : Bool := crcValid (crc16 (coveredBytes frame)) (receivedCrc frame)

/-- D0's Frame record, a view of a whole frame's bytes (10_state.md R27). -/
structure FrameView where
  slave : Byte
  function : Byte
  address : Option Half
  byteCount : Option Byte
  payload : List Byte
  crc : Half
  valid : Bool
  deriving DecidableEq, Repr

/-- The view R27 gives of a whole frame: the address on requests, the byte count on function 15 and 16 requests and on normal
responses; "Validity is computed, never assumed". `payload` is everything between the function byte and the CRC (R105). -/
def frameView (d : Dir) (frame : List Byte) : FrameView :=
  let f := frame.getD 1 0
  { slave := frame.getD 0 0
    function := f
    address :=
      match d with
      | .req => some (joinBytes (frame.getD 2 0) (frame.getD 3 0))
      | .rsp => none
    byteCount :=
      match d with
      | .req => if f = 0x0F ∨ f = 0x10 then some (frame.getD 6 0) else none
      | .rsp => if exceptionFlag f then none else some (frame.getD 2 0)
    payload := (coveredBytes frame).drop 2
    crc := receivedCrc frame
    valid := frameValid frame }

/-- `fn_match` (43_response_parser.md R167): informational, read by no rule. -/
def fnMatch (fn reqFn : Byte) : Bool := decide (functionCode fn = reqFn)

/-- `clean_eof` of a `SyncLost` (60_exceptions.md R246). -/
def cleanEnd (ph : Phase) (skipped : Word) : Bool := decide (ph = .reqSyncId) && decide (skipped = 0)

/-- The code of a failure cause (R240). -/
def Cause.code : Cause → BitVec 3
  | .none => 0
  | .shortRead => 1
  | .checksumMismatch => 2
  | .unsupportedFunction => 3
  | .syncLost => 4
  | .ioError => 5

/-- The cause that recorded information belongs to (R241). -/
def FailInfo.cause : FailInfo → Cause
  | .shortRead _ _ _ => .shortRead
  | .checksumMismatch _ _ => .checksumMismatch
  | .unsupportedFunction _ => .unsupportedFunction
  | .syncLost _ _ => .syncLost
  | .ioError _ => .ioError

/-- Whether a cause has a live branch: `SyncLost` and `IOError` end the run whatever `IS_LIVE` is (R246, R247, R250). -/
def Cause.recoverable : Cause → Bool
  | .none => false
  | .shortRead => true
  | .checksumMismatch => true
  | .unsupportedFunction => true
  | .syncLost => false
  | .ioError => false

/-- The operating modes (R257). -/
inductive Mode where
  | synced | resyncing | halted
  deriving DecidableEq, Repr

/-- The mode, read off the phase (R32, R257). -/
def Phase.mode : Phase → Mode
  | .reqSyncId => .synced
  | .reqSyncFn => .synced
  | .reqPrefix => .synced
  | .reqBody => .synced
  | .rspSyncId => .synced
  | .rspSyncFn => .synced
  | .rspBc => .synced
  | .rspExc => .synced
  | .rspBody => .synced
  | .resync => .resyncing
  | .halted => .halted

end Sys2Proof.Machine
end

