-- ==== Sys2Proof/Machine/Ops.lean ====
section
/-! DEFINITION. The named operations over the frame buffer and the registers, failure entry (60_exceptions.md R250) and the return from
a failure (R264). -/

namespace Sys2Proof.Machine

/-- Go on with the result of an operation, or stop as it stopped. -/
def andThen {α β : Type} (r : Result α) (k : α → Result β) : Result β :=
  match r with
  | .next a => k a
  | .fault f => .fault f
  | .refused e => .refused e

/-! ### The frame buffer (20_memory.md R56) -/

/-- `fb[a]`: the byte at an index, if the frame in progress has one there. -/
def readByte : Memory → Nat → Option Byte
  | [], _ => unlistedByte
  | (k, b) :: rest, a => if k = a then some b else readByte rest a

/-- The buffer with one byte replaced or put in, in canonical form. -/
def writeByte : Memory → Nat → Byte → Memory
  | [], a, v => [(a, v)]
  | (k, b) :: rest, a, v =>
    if a < k then (a, v) :: (k, b) :: rest
    else if a = k then (a, v) :: rest
    else (k, b) :: writeByte rest a v

/-- The `n` bytes from index `a` on. -/
def readFrame (m : Memory) : Nat → Nat → Result (List Byte)
  | _, 0 => .next []
  | a, n + 1 =>
    match readByte m a with
    | none => .fault (.frameByteAbsent a)
    | some b => andThen (readFrame m (a + 1) n) (fun bytes => .next (b :: bytes))

/-- `fb[i] <- b ; len <- i + 1`. -/
def putByte (i : Nat) (b : Byte) (s : State) : Result State :=
  if i < frameBufferSize then .next { s with fb := writeByte s.fb i b, len := i + 1 }
  else .fault (.frameBufferFull i)

/-- The cells of a byte sequence from an index on. -/
def cellsFrom : Nat → List Byte → Memory
  | _, [] => []
  | a, b :: rest => (a, b) :: cellsFrom (a + 1) rest

/-! ### The accumulator file (10_state.md R28) -/

/-- The element of a quantity. -/
def perGet {α : Type} (p : PerQ32 α) : Q32 → α
  | .curGen => p.curGen
  | .activeP => p.activeP
  | .gridP => p.gridP
  | .battP => p.battP
  | .meterTotalP => p.meterTotalP

/-- The file with the element of a quantity replaced. -/
def perSet {α : Type} (p : PerQ32 α) (q : Q32) (x : α) : PerQ32 α :=
  match q with
  | .curGen => { p with curGen := x }
  | .activeP => { p with activeP := x }
  | .gridP => { p with gridP := x }
  | .battP => { p with battP := x }
  | .meterTotalP => { p with meterTotalP := x }

/-- `acc[q] <- a ; pend[q] <- p`. -/
def setPair (q : Q32) (a : Word) (p : Bool) (s : State) : State :=
  { s with acc := perSet s.acc q a, pend := perSet s.pend q p }

/-! ### Output, searches, frames -/

/-- `emit E` (00_scope.md R13). -/
def emit (e : OutEvent) (s : State) : State := { s with out := s.out ++ [e] }

/-- `len <- 0`: the frame in progress is dropped, its bytes are gone (R27). -/
def dropFrame (s : State) : State := { s with fb := [], len := 0 }

/-- A header search starts (41_frame_sync.md R122). -/
def startSearch (ph : Phase) (s : State) : State :=
  { s with ph := ph, skipped := 0, fb := [], len := 0, need := 0 }

/-- The phase in which a position's header search starts. -/
def searchPhase : Dir → Phase
  | .req => .reqSyncId
  | .rsp => .rspSyncId

/-- `crc_calc <- c ; crc_rx <- r` (40_crc16.md R106). -/
def noteCrc (c r : Half) (s : State) : State := { s with crcCalc := c, crcRx := r }

/-! ### Failure entry and return -/

/-- Record a failure, report it and drop the frame in progress (R250, first lines; R246, R247). -/
def recordFailure (info : FailInfo) (s : State) : State :=
  emit (.fail info.cause info)
    { s with failCause := info.cause, failPh := s.ph, fb := [], len := 0, need := 0 }

/-- Failure entry (R250). `SyncLost` and `IOError` never take the live branch (R246, R247). -/
def takeFailure (info : FailInfo) (s : State) : State :=
  if s.cfg.isLive && info.cause.recoverable then
    emit .quietArm { recordFailure info s with ph := .resync }
  else
    emit (.halt info.cause) { recordFailure info s with haltCause := info.cause, ph := .halted }

/-- The block's only return from a failure (R264). -/
def returnFromFailure (s : State) : State := emit .resynced (startSearch .reqSyncId s)

end Sys2Proof.Machine
end

