-- ==== Sys2Proof/Machine/Requests.lean ====
section
/-! DEFINITION. The request rows (42_request_parser.md): a request frame that has been read to its end, and a header in request position
that has no request layout. -/

namespace Sys2Proof.Machine

/-- Completing a request (R143), then the hand-over to the response parser (R144) or the failure (R145). `body` is what stands
between the function byte and the CRC. -/
def completeRequest (fn : Byte) (addr : Half) (bc : Option Byte) (body : List Byte) (crcRx : Half) (s : State) : State :=
  let crcCalc := crc16 (s.cfg.expectedSlave :: fn :: body)
  let reported := emit (.reqFrame fn addr bc (crcValid crcCalc crcRx) crcCalc crcRx) (noteCrc crcCalc crcRx s)
  if crcValid crcCalc crcRx then startSearch .rspSyncId { reported with reqFn := fn, reqAddr := addr }
  else takeFailure (.checksumMismatch crcCalc crcRx) reported

/-- A request of format REQ_FIXED (30_encoding.md R77). -/
def completeFixed (fn : Byte) (addr : Half) (p2 p3 : Byte) (crc : Half) (s : State) : State :=
  completeRequest fn addr none (fixedBody addr p2 p3) crc s

/-- A request of format REQ_VAR (30_encoding.md R78); the byte count is the number of data bytes. -/
def completeVar (fn : Byte) (addr q : Half) (data : List Byte) (crc : Half) (s : State) : State :=
  completeRequest fn addr (some (BitVec.ofNat 8 data.length)) (varBody addr q data) crc s

/-- An accepted header without a request layout (R139, R140). -/
def unsupported (f : Byte) (s : State) : State := takeFailure (.unsupportedFunction f) s

/-- `REQ.F01` (R131). -/
def execReqF01 (addr : Half) (p2 p3 : Byte) (crc : Half) (s : State) : Result State :=
  .next (completeFixed 0x01 addr p2 p3 crc s)

/-- `REQ.F02` (R132). -/
def execReqF02 (addr : Half) (p2 p3 : Byte) (crc : Half) (s : State) : Result State :=
  .next (completeFixed 0x02 addr p2 p3 crc s)

/-- `REQ.F03` (R133). -/
def execReqF03 (addr : Half) (p2 p3 : Byte) (crc : Half) (s : State) : Result State :=
  .next (completeFixed 0x03 addr p2 p3 crc s)

/-- `REQ.F04` (R134). -/
def execReqF04 (addr : Half) (p2 p3 : Byte) (crc : Half) (s : State) : Result State :=
  .next (completeFixed 0x04 addr p2 p3 crc s)

/-- `REQ.F05` (R135). -/
def execReqF05 (addr : Half) (p2 p3 : Byte) (crc : Half) (s : State) : Result State :=
  .next (completeFixed 0x05 addr p2 p3 crc s)

/-- `REQ.F06` (R136). -/
def execReqF06 (addr : Half) (p2 p3 : Byte) (crc : Half) (s : State) : Result State :=
  .next (completeFixed 0x06 addr p2 p3 crc s)

/-- `REQ.F15` (R137). -/
def execReqF15 (addr q : Half) (data : List Byte) (crc : Half) (s : State) : Result State :=
  .next (completeVar 0x0F addr q data crc s)

/-- `REQ.F16` (R138). -/
def execReqF16 (addr q : Half) (data : List Byte) (crc : Half) (s : State) : Result State :=
  .next (completeVar 0x10 addr q data crc s)

/-- `REQ.RSID` (R139): a known code without a request layout. -/
def execReqRsid (s : State) : Result State := .next (unsupported s.cfg.fcRsid s)

/-- `REQ.EXC.F01` (R140). -/
def execReqExcF01 (s : State) : Result State := .next (unsupported 0x81 s)

/-- `REQ.EXC.F02` (R140). -/
def execReqExcF02 (s : State) : Result State := .next (unsupported 0x82 s)

/-- `REQ.EXC.F03` (R140). -/
def execReqExcF03 (s : State) : Result State := .next (unsupported 0x83 s)

/-- `REQ.EXC.F04` (R140). -/
def execReqExcF04 (s : State) : Result State := .next (unsupported 0x84 s)

/-- `REQ.EXC.F05` (R140). -/
def execReqExcF05 (s : State) : Result State := .next (unsupported 0x85 s)

/-- `REQ.EXC.F06` (R140). -/
def execReqExcF06 (s : State) : Result State := .next (unsupported 0x86 s)

/-- `REQ.EXC.F15` (R140). -/
def execReqExcF15 (s : State) : Result State := .next (unsupported 0x8F s)

/-- `REQ.EXC.F16` (R140). -/
def execReqExcF16 (s : State) : Result State := .next (unsupported 0x90 s)

/-- `REQ.EXC.F17` (R140). -/
def execReqExcF17 (s : State) : Result State := .next (unsupported (0x80 ||| s.cfg.fcRsid) s)

end Sys2Proof.Machine
end

