-- ==== Sys2Proof/Machine/Registers.lean ====
section
/-! DEFINITION. The register decoder (44_register_decoder.md): one meaning per row of the look-up table, and the decoding of a sample,
which runs the row its address selects. -/

namespace Sys2Proof.Machine

/-- A sample at an address that has an entry (R184): a measurement at once (R185), a high word stored (R186), a low word that
completes a pending high word (R187) or is reported alone (R188). -/
def runEntry (e : Entry) (value : Half) (s : State) : State :=
  match e with
  | .single q signed exp10 unit => emit (.meas q (val16 signed value) exp10 unit) s
  | .high q => setPair q (highWord value) true s
  | .low q signed exp10 unit =>
    if perGet s.pend q then
      setPair q 0 false (emit (.meas q.toQuantity (val32 signed (joinWords (perGet s.acc q) value)) exp10 unit) s)
    else emit (.lowWithoutHigh q) s

/-- The effect of `ENERGY.TODAY` (R192). -/
def energyTodaySample (value : Half) (s : State) : State := runEntry (.single .energyToday false (-1) .kilowattHour) value s

/-- The effect of `CUR_GEN.HI` (R193). -/
def curGenHiSample (value : Half) (s : State) : State := runEntry (.high .curGen) value s

/-- The effect of `CUR_GEN.LO` (R194). -/
def curGenLoSample (value : Half) (s : State) : State := runEntry (.low .curGen false 0 .watt) value s

/-- The effect of `BATT.SOC` (R195). -/
def battSocSample (value : Half) (s : State) : State := runEntry (.single .battSoc false 0 .percent) value s

/-- The effect of `METER.HI` (R196). -/
def meterHiSample (value : Half) (s : State) : State := runEntry (.high .meterTotalP) value s

/-- The effect of `METER.LO` (R197). -/
def meterLoSample (value : Half) (s : State) : State := runEntry (.low .meterTotalP true (-3) .kilowatt) value s

/-- The effect of `UNMAPPED` (R190): none. -/
def unmappedSample (_addr _value : Half) (s : State) : State := s

/-- The effect of a row that an open `Single` entry adds (30_encoding.md R90; R185). -/
def openSingleSample (q : Quantity) (signed : Bool) (exp10 : Int) (unit : MeasUnit) (value : Half) (s : State) : State :=
  runEntry (.single q signed exp10 unit) value s

/-- The effect of a row that an open `High` entry adds (30_encoding.md R90; R186). -/
def openHighSample (q : Q32) (value : Half) (s : State) : State := runEntry (.high q) value s

/-- The effect of a row that an open `Low` entry adds (30_encoding.md R90; R187, R188). -/
def openLowSample (q : Q32) (signed : Bool) (exp10 : Int) (unit : MeasUnit) (value : Half) (s : State) : State :=
  runEntry (.low q signed exp10 unit) value s

/-- `ENERGY.TODAY` (R192). -/
def execEnergyToday (value : Half) (s : State) : Result State := .next (energyTodaySample value s)

/-- `CUR_GEN.HI` (R193). -/
def execCurGenHi (value : Half) (s : State) : Result State := .next (curGenHiSample value s)

/-- `CUR_GEN.LO` (R194). -/
def execCurGenLo (value : Half) (s : State) : Result State := .next (curGenLoSample value s)

/-- `BATT.SOC` (R195). -/
def execBattSoc (value : Half) (s : State) : Result State := .next (battSocSample value s)

/-- `METER.HI` (R196). -/
def execMeterHi (value : Half) (s : State) : Result State := .next (meterHiSample value s)

/-- `METER.LO` (R197). -/
def execMeterLo (value : Half) (s : State) : Result State := .next (meterLoSample value s)

/-- `UNMAPPED` (R190). -/
def execUnmapped (addr value : Half) (s : State) : Result State := .next (unmappedSample addr value s)

/-- A row of an open `Single` entry (30_encoding.md R90; R185). The row's address selects it and takes no part in its effect. -/
def execOpenSingle (_addr : Half) (q : Quantity) (signed : Bool) (exp10 : Int) (unit : MeasUnit) (value : Half) (s : State) :
    Result State :=
  .next (openSingleSample q signed exp10 unit value s)

/-- A row of an open `High` entry (30_encoding.md R90; R186). -/
def execOpenHigh (_addr : Half) (q : Q32) (value : Half) (s : State) : Result State := .next (openHighSample q value s)

/-- A row of an open `Low` entry (30_encoding.md R90; R187, R188). -/
def execOpenLow (_addr : Half) (q : Q32) (signed : Bool) (exp10 : Int) (unit : MeasUnit) (value : Half) (s : State) :
    Result State :=
  .next (openLowSample q signed exp10 unit value s)

/-- `decode(address, value)` (R184): the row that the address selects, those of the entries beyond `REGMAP_MIN` included (R191). -/
def decodeRegister (addr value : Half) (s : State) : State :=
  match regRow s.cfg addr with
  | .energyToday => energyTodaySample value s
  | .curGenHi => curGenHiSample value s
  | .curGenLo => curGenLoSample value s
  | .battSoc => battSocSample value s
  | .meterHi => meterHiSample value s
  | .meterLo => meterLoSample value s
  | .unmapped => unmappedSample addr value s
  | .openSingle q signed exp10 unit => openSingleSample q signed exp10 unit value s
  | .openHigh q => openHighSample q value s
  | .openLow q signed exp10 unit => openLowSample q signed exp10 unit value s

/-- Samples decoded one after the other, each finished before the next (20_memory.md R71). -/
def decodeAll : List (Half × Half) → State → State
  | [], s => s
  | (addr, value) :: rest, s => decodeAll rest (decodeRegister addr value s)

end Sys2Proof.Machine
end

