-- ==== Sys2Proof/Machine/Responses.lean ====
section
/-! DEFINITION. The response rows (43_response_parser.md): a normal or an exception response that has been read to its end. -/

namespace Sys2Proof.Machine

/-- Completing a normal response (R163): decode its samples and end the transaction (R168), or fail (R169). -/
def completeNormal (fn : Byte) (payload : List Byte) (crcRx : Half) (s : State) : State :=
  let crcCalc := crc16 (s.cfg.expectedSlave :: fn :: normalBody payload)
  let reported :=
    emit (.rspFrame fn (BitVec.ofNat 8 payload.length) (crcValid crcCalc crcRx) crcCalc crcRx (fnMatch fn s.reqFn))
      (noteCrc crcCalc crcRx s)
  if crcValid crcCalc crcRx then startSearch .reqSyncId (decodeAll (samples s.reqAddr payload) reported)
  else takeFailure (.checksumMismatch crcCalc crcRx) reported

/-- Completing an exception response (R170): end the transaction (R171 a), or fail (R171 b). -/
def completeException (fn err : Byte) (crcRx : Half) (s : State) : State :=
  let crcCalc := crc16 [s.cfg.expectedSlave, fn, err]
  let reported :=
    emit (.excFrame fn err (crcValid crcCalc crcRx) crcCalc crcRx (fnMatch fn s.reqFn)) (noteCrc crcCalc crcRx s)
  if crcValid crcCalc crcRx then startSearch .reqSyncId reported
  else takeFailure (.checksumMismatch crcCalc crcRx) reported

/-- `RSP.F01` (R161, R172). -/
def execRspF01 (payload : List Byte) (crc : Half) (s : State) : Result State :=
  .next (completeNormal 0x01 payload crc s)

/-- `RSP.F02` (R161, R172). -/
def execRspF02 (payload : List Byte) (crc : Half) (s : State) : Result State :=
  .next (completeNormal 0x02 payload crc s)

/-- `RSP.F03` (R161, R172). -/
def execRspF03 (payload : List Byte) (crc : Half) (s : State) : Result State :=
  .next (completeNormal 0x03 payload crc s)

/-- `RSP.F04` (R161, R172). -/
def execRspF04 (payload : List Byte) (crc : Half) (s : State) : Result State :=
  .next (completeNormal 0x04 payload crc s)

/-- `RSP.F05` (R161, R172). -/
def execRspF05 (payload : List Byte) (crc : Half) (s : State) : Result State :=
  .next (completeNormal 0x05 payload crc s)

/-- `RSP.F06` (R161, R172). -/
def execRspF06 (payload : List Byte) (crc : Half) (s : State) : Result State :=
  .next (completeNormal 0x06 payload crc s)

/-- `RSP.F15` (R161, R172). -/
def execRspF15 (payload : List Byte) (crc : Half) (s : State) : Result State :=
  .next (completeNormal 0x0F payload crc s)

/-- `RSP.F16` (R161, R172). -/
def execRspF16 (payload : List Byte) (crc : Half) (s : State) : Result State :=
  .next (completeNormal 0x10 payload crc s)

/-- `RSP.F17` (R161, R172). -/
def execRspF17 (payload : List Byte) (crc : Half) (s : State) : Result State :=
  .next (completeNormal s.cfg.fcRsid payload crc s)

/-- `RSPX.F01` (R160, R173). -/
def execRspxF01 (err : Byte) (crc : Half) (s : State) : Result State :=
  .next (completeException 0x81 err crc s)

/-- `RSPX.F02` (R160, R173). -/
def execRspxF02 (err : Byte) (crc : Half) (s : State) : Result State :=
  .next (completeException 0x82 err crc s)

/-- `RSPX.F03` (R160, R173). -/
def execRspxF03 (err : Byte) (crc : Half) (s : State) : Result State :=
  .next (completeException 0x83 err crc s)

/-- `RSPX.F04` (R160, R173). -/
def execRspxF04 (err : Byte) (crc : Half) (s : State) : Result State :=
  .next (completeException 0x84 err crc s)

/-- `RSPX.F05` (R160, R173). -/
def execRspxF05 (err : Byte) (crc : Half) (s : State) : Result State :=
  .next (completeException 0x85 err crc s)

/-- `RSPX.F06` (R160, R173). -/
def execRspxF06 (err : Byte) (crc : Half) (s : State) : Result State :=
  .next (completeException 0x86 err crc s)

/-- `RSPX.F15` (R160, R173). -/
def execRspxF15 (err : Byte) (crc : Half) (s : State) : Result State :=
  .next (completeException 0x8F err crc s)

/-- `RSPX.F16` (R160, R173). -/
def execRspxF16 (err : Byte) (crc : Half) (s : State) : Result State :=
  .next (completeException 0x90 err crc s)

/-- `RSPX.F17` (R160, R173). -/
def execRspxF17 (err : Byte) (crc : Half) (s : State) : Result State :=
  .next (completeException (0x80 ||| s.cfg.fcRsid) err crc s)

end Sys2Proof.Machine
end

