-- ==== Sys2Proof/Machine/Sync.lean ====
section
/-! DEFINITION. The rows `NOISE.REQ` and `NOISE.RSP`: a candidate header whose function byte the synchroniser rejects
(41_frame_sync.md R119). -/

namespace Sys2Proof.Machine

/-- R119: both bytes counted as skipped, the candidate dropped, the search goes on. No output, no failure. -/
def skipCandidate (d : Dir) (s : State) : State :=
  { dropFrame s with skipped := addSaturating s.skipped 2, ph := searchPhase d }

/-- `NOISE.REQ` (R119). The rejected byte is consumed and not looked at again. -/
def execNoiseReq (_f : Byte) (s : State) : Result State := .next (skipCandidate .req s)

/-- `NOISE.RSP` (R119). -/
def execNoiseRsp (_f : Byte) (s : State) : Result State := .next (skipCandidate .rsp s)

end Sys2Proof.Machine
end

