-- ==== Sys2Proof/Machine/Dispatch.lean ====
section
/-! DEFINITION. The dispatch of an instruction to its meaning, one arm per constructor. -/

namespace Sys2Proof.Machine

def exec (i : Instr) (s : State) : Host.Outcome State Fault Refusal :=
  match i with
  | .reqF01 addr p2 p3 crc => Sys2Proof.Machine.execReqF01 addr p2 p3 crc s
  | .reqF02 addr p2 p3 crc => Sys2Proof.Machine.execReqF02 addr p2 p3 crc s
  | .reqF03 addr p2 p3 crc => Sys2Proof.Machine.execReqF03 addr p2 p3 crc s
  | .reqF04 addr p2 p3 crc => Sys2Proof.Machine.execReqF04 addr p2 p3 crc s
  | .reqF05 addr p2 p3 crc => Sys2Proof.Machine.execReqF05 addr p2 p3 crc s
  | .reqF06 addr p2 p3 crc => Sys2Proof.Machine.execReqF06 addr p2 p3 crc s
  | .reqF15 addr q data crc => Sys2Proof.Machine.execReqF15 addr q data crc s
  | .reqF16 addr q data crc => Sys2Proof.Machine.execReqF16 addr q data crc s
  | .reqRsid => Sys2Proof.Machine.execReqRsid s
  | .reqExcF01 => Sys2Proof.Machine.execReqExcF01 s
  | .reqExcF02 => Sys2Proof.Machine.execReqExcF02 s
  | .reqExcF03 => Sys2Proof.Machine.execReqExcF03 s
  | .reqExcF04 => Sys2Proof.Machine.execReqExcF04 s
  | .reqExcF05 => Sys2Proof.Machine.execReqExcF05 s
  | .reqExcF06 => Sys2Proof.Machine.execReqExcF06 s
  | .reqExcF15 => Sys2Proof.Machine.execReqExcF15 s
  | .reqExcF16 => Sys2Proof.Machine.execReqExcF16 s
  | .reqExcF17 => Sys2Proof.Machine.execReqExcF17 s
  | .rspF01 payload crc => Sys2Proof.Machine.execRspF01 payload crc s
  | .rspF02 payload crc => Sys2Proof.Machine.execRspF02 payload crc s
  | .rspF03 payload crc => Sys2Proof.Machine.execRspF03 payload crc s
  | .rspF04 payload crc => Sys2Proof.Machine.execRspF04 payload crc s
  | .rspF05 payload crc => Sys2Proof.Machine.execRspF05 payload crc s
  | .rspF06 payload crc => Sys2Proof.Machine.execRspF06 payload crc s
  | .rspF15 payload crc => Sys2Proof.Machine.execRspF15 payload crc s
  | .rspF16 payload crc => Sys2Proof.Machine.execRspF16 payload crc s
  | .rspF17 payload crc => Sys2Proof.Machine.execRspF17 payload crc s
  | .rspxF01 err crc => Sys2Proof.Machine.execRspxF01 err crc s
  | .rspxF02 err crc => Sys2Proof.Machine.execRspxF02 err crc s
  | .rspxF03 err crc => Sys2Proof.Machine.execRspxF03 err crc s
  | .rspxF04 err crc => Sys2Proof.Machine.execRspxF04 err crc s
  | .rspxF05 err crc => Sys2Proof.Machine.execRspxF05 err crc s
  | .rspxF06 err crc => Sys2Proof.Machine.execRspxF06 err crc s
  | .rspxF15 err crc => Sys2Proof.Machine.execRspxF15 err crc s
  | .rspxF16 err crc => Sys2Proof.Machine.execRspxF16 err crc s
  | .rspxF17 err crc => Sys2Proof.Machine.execRspxF17 err crc s
  | .noiseReq f => Sys2Proof.Machine.execNoiseReq f s
  | .noiseRsp f => Sys2Proof.Machine.execNoiseRsp f s
  | .energyToday value => Sys2Proof.Machine.execEnergyToday value s
  | .curGenHi value => Sys2Proof.Machine.execCurGenHi value s
  | .curGenLo value => Sys2Proof.Machine.execCurGenLo value s
  | .battSoc value => Sys2Proof.Machine.execBattSoc value s
  | .meterHi value => Sys2Proof.Machine.execMeterHi value s
  | .meterLo value => Sys2Proof.Machine.execMeterLo value s
  | .unmapped addr value => Sys2Proof.Machine.execUnmapped addr value s
  | .openSingle addr q signed exp10 unit value => Sys2Proof.Machine.execOpenSingle addr q signed exp10 unit value s
  | .openHigh addr q value => Sys2Proof.Machine.execOpenHigh addr q value s
  | .openLow addr q signed exp10 unit value => Sys2Proof.Machine.execOpenLow addr q signed exp10 unit value s

end Sys2Proof.Machine
end

