-- ==== Sys2Proof/Machine/Fetch.lean ====
section
/-! DEFINITION. Fetching an instruction's bytes, one per `Byte` event: the synchroniser (41_frame_sync.md R117, R118), the request
dispatch (42_request_parser.md R130) and the byte-reading phases (R141, R142; 43_response_parser.md R157, R162). A fetch ends with
the instruction whose last byte it took. -/

namespace Sys2Proof.Machine

/-- The instruction that the bytes of a finished frame are. -/
def decodeWhole (d : Dir) (bytes : List Byte) (s : State) : Result Fetched :=
  match decode s.cfg (.frame d bytes) with
  | .ok (i, []) => .next (.complete i s)
  | .ok (_, _ :: _) => .refused .frameNotWhole
  | .error e => .refused (.undecodable e)

/-- The frame in progress has ended: its `len` bytes are the instruction. -/
def endFrame (d : Dir) (s : State) : Result Fetched :=
  andThen (readFrame s.fb 0 s.len) (fun bytes => decodeWhole d bytes s)

/-- The candidate header whose second byte is rejected: that byte is not stored (R119). -/
def endCandidate (d : Dir) (b : Byte) (s : State) : Result Fetched :=
  andThen (readFrame s.fb 0 s.len) (fun bytes => decodeWhole d (bytes ++ [b]) s)

/-- R117: a candidate slave id. -/
def fetchSlave (d : Dir) (b : Byte) (s : State) : Result Fetched :=
  if b = s.cfg.expectedSlave then
    andThen (putByte 0 b s) (fun t =>
      .next (.more { t with ph := match d with | .req => .reqSyncFn | .rsp => .rspSyncFn }))
  else .next (.more { s with skipped := addSaturating s.skipped 1 })

/-- R118: an accepted header is stored and reported. -/
def acceptHeader (d : Dir) (b : Byte) (s : State) : Result State :=
  andThen (putByte 1 b { s with fn := b }) (fun t => .next (emit (.header d b t.skipped) t))

/-- R118, R119 and the dispatch of R130, on the raw byte: 6 more bytes, or a prefix of 5, or an instruction of two bytes. -/
def fetchRequestFunction (b : Byte) (s : State) : Result Fetched :=
  if syncAccept s.cfg b then
    andThen (acceptHeader .req b s) (fun t =>
      if b ∈ ([1, 2, 3, 4, 5, 6] : List Byte) then .next (.more { t with need := 6, ph := .reqBody })
      else if b ∈ ([15, 16] : List Byte) then .next (.more { t with need := 5, ph := .reqPrefix })
      else endFrame .req t)
  else endCandidate .req b s

/-- R118 and R119 in response position. -/
def fetchResponseFunction (b : Byte) (s : State) : Result Fetched :=
  if syncAccept s.cfg b then
    andThen (acceptHeader .rsp b s) (fun t => .next (.more { t with ph := .rspBc }))
  else endCandidate .rsp b s

/-- Store a byte and count down (first two lines of R141, R142 and R162). -/
def storeByte (b : Byte) (s : State) : Result State :=
  andThen (putByte s.len b s) (fun t => .next { t with need := s.need - 1 })

/-- R142: the five prefix bytes of a function 15 or 16 request; the last is the byte count. -/
def fetchPrefix (b : Byte) (s : State) : Result Fetched :=
  andThen (storeByte b s) (fun t =>
    if t.need = 0 then
      match readByte t.fb 6 with
      | some bc => .next (.more { t with need := bc.toNat + 2, ph := .reqBody })
      | none => .fault (.frameByteAbsent 6)
    else .next (.more t))

/-- R141 and R162: the remaining bytes of a frame. -/
def fetchBody (d : Dir) (b : Byte) (s : State) : Result Fetched :=
  andThen (storeByte b s) (fun t => if t.need = 0 then endFrame d t else .next (.more t))

/-- R157: the byte count, or the error code of an exception response. -/
def fetchByteCount (b : Byte) (s : State) : Result Fetched :=
  andThen (putByte 2 b s) (fun t =>
    if exceptionFlag s.fn then .next (.more { t with need := 2, ph := .rspExc })
    else .next (.more { t with need := b.toNat + 2, ph := .rspBody }))

/-- What each phase does with a byte (45_transaction_sequencer.md R215); `RESYNC` discards it and re-arms the timer
(60_exceptions.md R263), `HALTED` takes none (R217). -/
def fetchByte (b : Byte) (s : State) : Result Fetched :=
  match s.ph with
  | .reqSyncId => fetchSlave .req b s
  | .rspSyncId => fetchSlave .rsp b s
  | .reqSyncFn => fetchRequestFunction b s
  | .rspSyncFn => fetchResponseFunction b s
  | .reqPrefix => fetchPrefix b s
  | .reqBody => fetchBody .req b s
  | .rspBc => fetchByteCount b s
  | .rspExc => fetchBody .rsp b s
  | .rspBody => fetchBody .rsp b s
  | .resync => .next (.more (emit .quietArm s))
  | .halted => .next (.more s)

/-! ### Placing an instruction where the next step takes it (log entry 12) -/

/-- A whole frame, all but its last byte collected and that byte about to arrive. -/
def stageFrame (ph : Phase) (need : Nat) (frame : List Byte) (s : State) : State :=
  { s with
    ph := ph
    len := frame.length - 1
    need := need
    fb := cellsFrom 0 frame.dropLast
    inp := .byte (frame.getLastD 0) :: s.inp }

/-- A frame in request position: the bytes of the first instruction that `bytes` holds. -/
def stageRequest (bytes : List Byte) (s : State) : State :=
  match decodeRequest s.cfg bytes with
  | .ok (_, rest) =>
    let frame := bytes.take (bytes.length - rest.length)
    if frame.length = 2 then stageFrame .reqSyncFn 0 frame s
    else { stageFrame .reqBody 1 frame s with fn := frame.getD 1 0 }
  | .error _ => s

/-- A register sample: a valid function 4 response with this one word, to a request for this address. -/
def stageSample (addr value : Half) (s : State) : State :=
  let body := normalBody [hiByte value, loByte value]
  let frame := frameOf s.cfg 0x04 body (crc16 (s.cfg.expectedSlave :: 0x04 :: body))
  { stageFrame .rspBody 1 frame s with fn := 0x04, reqFn := 0x04, reqAddr := addr }

end Sys2Proof.Machine
end

