-- ==== Sys2Proof/Machine/Sequencer.lean ====
section
/-! DEFINITION. What each input event does (45_transaction_sequencer.md R215): the system operations `Reset`, `IoErr`, `Quiet` and `Short`
(R221), and a byte, which is fetched and, when it ends an instruction, executes it. -/

namespace Sys2Proof.Machine

/-- `Reset` (R218): every element of the block's state at its reset value, no output. The configuration and the events still to
arrive are not the block's (R280, log entry 16). -/
def resetBlock (s : State) : State := { State.reset with cfg := s.cfg, inp := s.inp }

/-- `IoErr` (60_exceptions.md R247). -/
def onIoErr (s : State) : State := takeFailure (.ioError s.ph) s

/-- `Quiet`: the return from a failure in `RESYNC` (R264), elsewhere ignored (R265). -/
def onQuiet (s : State) : State := if s.ph = .resync then returnFromFailure s else s

/-- `Short` during a header search (R246). -/
def loseSync (s : State) : State :=
  takeFailure (.syncLost s.ph s.skipped) { s with cleanEof := cleanEnd s.ph s.skipped }

/-- `Short` (R121, R146, R174): `SyncLost` in a header search, `ShortRead` inside a frame (R243), ignored in `RESYNC` (R266). -/
def onShort (s : State) : State :=
  match s.ph with
  | .reqSyncId => loseSync s
  | .reqSyncFn => loseSync s
  | .rspSyncId => loseSync s
  | .rspSyncFn => loseSync s
  | .reqPrefix => takeFailure (.shortRead s.ph s.len s.need) s
  | .reqBody => takeFailure (.shortRead s.ph s.len s.need) s
  | .rspBc => takeFailure (.shortRead s.ph s.len s.need) s
  | .rspExc => takeFailure (.shortRead s.ph s.len s.need) s
  | .rspBody => takeFailure (.shortRead s.ph s.len s.need) s
  | .resync => s
  | .halted => s

/-- After a fetch: go on collecting, or execute the instruction. -/
def runFetched : Fetched → Result State
  | .more s => .next s
  | .complete i s => exec i s

/-- One event, in the order of tests of R216: `Reset` first, then `HALTED`, then the event, then the phase. -/
def takeEvent (ev : InEvent) (s : State) : Result State :=
  match ev with
  | .reset => .next (resetBlock s)
  | .ioErr => if s.ph = .halted then .next s else .next (onIoErr s)
  | .quiet => if s.ph = .halted then .next s else .next (onQuiet s)
  | .short => if s.ph = .halted then .next s else .next (onShort s)
  | .byte b => if s.ph = .halted then .next s else andThen (fetchByte b s) runFetched

/-- One step: an ill-formed configuration is refused (00_scope.md R11); with nothing arriving the block waits
(70_reset_and_hazards.md R298, log entry 6); otherwise the next event is taken, and the outputs are this step's (R8). -/
def stepBlock (s : State) : Result State :=
  if s.cfg.wf then
    match s.inp with
    | [] => .next { s with out := [] }
    | ev :: rest => takeEvent ev { s with inp := rest, out := [] }
  else .refused .illFormedConfig

/-- Place an instruction of the opcode table where the next step takes it (log entry 12). -/
def placeTableWord (s : State) (nbits w : Nat) : State :=
  if nbits = 16 then stageSample (BitVec.ofNat 16 w) 0 s else stageRequest (tableFrame s.cfg nbits w) s

end Sys2Proof.Machine
end

