-- ==== Sys2Proof/Machine/Step.lean ====
section
/-! DEFINITION. The step of the machine, and the placing of an instruction where it fetches next. -/

namespace Sys2Proof.Machine

/-- One step: one input event (45_transaction_sequencer.md R215, R216). -/
def step (s : State) : Host.Outcome State Fault Refusal := stepBlock s

/-- The state with a word of the opcode table stored where `step` takes its next instruction (log entry 12). -/
def State.withFetchWord (s : State) (nbits w : Nat) : State := placeTableWord s nbits w

end Sys2Proof.Machine
end

