-- ==== Sys2Proof/Safety.lean ====
section
/-! DEFINITION. What holds of the block in every state a run can reach, what the platform owes it, and the vocabulary the statements
use. -/

namespace Sys2Proof.Machine

/-- The function bytes that have a request layout (42_request_parser.md R130). -/
def requestFns : List Byte := [1, 2, 3, 4, 5, 6, 15, 16]

/-- The frame buffer is in canonical form and holds a byte at exactly the indexes below `len` (10_state.md R27). -/
def BufferHeld (s : State) : Prop :=
  Memory.wf s.fb = true ∧ ∀ a, (readByte s.fb a).isSome = true ↔ a < s.len

/-- The phase invariants of R33 (10_state.md), one clause per row of its table. -/
def PhaseShape (s : State) : Prop :=
  match s.ph with
  | .reqSyncId => s.len = 0 ∧ s.need = 0
  | .rspSyncId => s.len = 0 ∧ s.need = 0
  | .reqSyncFn => s.len = 1 ∧ s.need = 0 ∧ readByte s.fb 0 = some s.cfg.expectedSlave
  | .rspSyncFn => s.len = 1 ∧ s.need = 0 ∧ readByte s.fb 0 = some s.cfg.expectedSlave
  | .reqPrefix =>
    s.len + s.need = 7 ∧ 1 ≤ s.need ∧ s.need ≤ 5 ∧ (s.fn = 15 ∨ s.fn = 16) ∧ readByte s.fb 1 = some s.fn
  | .reqBody =>
    (s.fn ∈ ([1, 2, 3, 4, 5, 6] : List Byte) ∧ s.len + s.need = 8 ∧ 1 ≤ s.need ∧ s.need ≤ 6
        ∧ readByte s.fb 1 = some s.fn)
      ∨ ((s.fn = 15 ∨ s.fn = 16) ∧ ∃ bc, readByte s.fb 6 = some bc
        ∧ s.len + s.need = 9 + bc.toNat ∧ 1 ≤ s.need ∧ s.need ≤ bc.toNat + 2)
  | .rspBc => s.len = 2 ∧ s.need = 0 ∧ readByte s.fb 1 = some s.fn
  | .rspExc => s.len + s.need = 5 ∧ 1 ≤ s.need ∧ s.need ≤ 2 ∧ exceptionFlag s.fn = true
  | .rspBody =>
    exceptionFlag s.fn = false ∧ ∃ bc, readByte s.fb 2 = some bc
      ∧ s.len + s.need = 5 + bc.toNat ∧ 1 ≤ s.need ∧ s.need ≤ bc.toNat + 2
  | .resync => s.len = 0 ∧ s.need = 0
  | .halted => s.len = 0 ∧ s.need = 0

/-- The header of the frame in progress is the one the synchroniser accepted (41_frame_sync.md R117, R118). -/
def HeaderKept (s : State) : Prop :=
  (1 ≤ s.len → readByte s.fb 0 = some s.cfg.expectedSlave)
    ∧ (2 ≤ s.len → readByte s.fb 1 = some s.fn ∧ syncAccept s.cfg s.fn = true)

/-- The phases of the response parser. -/
def inResponse : Phase → Bool
  | .rspSyncId => true
  | .rspSyncFn => true
  | .rspBc => true
  | .rspExc => true
  | .rspBody => true
  | .reqSyncId => false
  | .reqSyncFn => false
  | .reqPrefix => false
  | .reqBody => false
  | .resync => false
  | .halted => false

/-- In response position `req_fn` is a function with a request layout (43_response_parser.md R167). -/
def RequestKnown (s : State) : Prop := inResponse s.ph = true → s.reqFn ∈ requestFns

/-- The invariant of the frame in progress. It is what keeps the machine from ever stopping. -/
def FrameInv (s : State) : Prop :=
  s.cfg.wf = true ∧ BufferHeld s ∧ PhaseShape s ∧ HeaderKept s ∧ RequestKnown s

/-- The accumulator file (10_state.md R28; 44_register_decoder.md R201 item 5): the low half of every accumulator is 0, and nothing
pending means 0. -/
def AccInv (s : State) : Prop :=
  ∀ q : Q32, (perGet s.acc q).extractLsb' 0 16 = 0 ∧ (perGet s.pend q = false → perGet s.acc q = 0)

/-- The status registers (10_state.md R30; 60_exceptions.md R250, R257): a halt cause exactly when halted, and then it is the latest
failure; a failure recorded in `RESYNC`; `clean_eof` only after `SyncLost`; `RESYNC` only on a live link. -/
def StatusInv (s : State) : Prop :=
  (s.haltCause ≠ .none ↔ s.ph = .halted)
    ∧ (s.ph = .halted → s.haltCause = s.failCause)
    ∧ (s.ph = .resync → s.failCause.recoverable = true ∧ s.cfg.isLive = true)
    ∧ (s.cleanEof = true → s.haltCause = .syncLost)

/-- The header-search phases (60_exceptions.md R240 `SyncLost`). -/
def searching : Phase → Bool
  | .reqSyncId => true
  | .reqSyncFn => true
  | .rspSyncId => true
  | .rspSyncFn => true
  | .reqPrefix => false
  | .reqBody => false
  | .rspBc => false
  | .rspExc => false
  | .rspBody => false
  | .resync => false
  | .halted => false

/-- The phases inside a frame whose header has been accepted (60_exceptions.md R240 `ShortRead`). -/
def insideFrame : Phase → Bool
  | .reqPrefix => true
  | .reqBody => true
  | .rspBc => true
  | .rspExc => true
  | .rspBody => true
  | .reqSyncId => false
  | .reqSyncFn => false
  | .rspSyncId => false
  | .rspSyncFn => false
  | .resync => false
  | .halted => false

/-- What the platform may deliver in a state, as far as the order of events shows it: no `Short` in a header search on a live link
(70_reset_and_hazards.md R288), `Quiet` only while the block resynchronises (60_exceptions.md R267), nothing but `Reset` after a
halt (R288). -/
def platformMay (s : State) : InEvent → Bool
  | .byte _ => decide (s.ph ≠ .halted)
  | .short => decide (s.ph ≠ .halted) && !(s.cfg.isLive && searching s.ph)
  | .ioErr => decide (s.ph ≠ .halted)
  | .quiet => decide (s.ph = .resync)
  | .reset => true

/-- One byte stored: index `i` holds it, and every other index reads as before (20_memory.md R56). -/
def Stored (s t : State) (i : Nat) (b : Byte) : Prop :=
  readByte t.fb i = some b ∧ ∀ a, a ≠ i → readByte t.fb a = readByte s.fb a

/-- The CRC verdict that a frame event carries (10_state.md R44). -/
def verdictOf : OutEvent → Option Bool
  | .reqFrame _ _ _ valid _ _ => some valid
  | .rspFrame _ _ valid _ _ _ => some valid
  | .excFrame _ _ valid _ _ _ => some valid
  | .header _ _ _ => none
  | .meas _ _ _ _ => none
  | .lowWithoutHigh _ => none
  | .fail _ _ => none
  | .quietArm => none
  | .resynced => none
  | .halt _ => none

/-- The events that only the register decoder emits (60_exceptions.md R271). -/
def fromDecoder : OutEvent → Bool
  | .meas _ _ _ _ => true
  | .lowWithoutHigh _ => true
  | .reqFrame _ _ _ _ _ _ => false
  | .rspFrame _ _ _ _ _ _ => false
  | .excFrame _ _ _ _ _ _ => false
  | .header _ _ _ => false
  | .fail _ _ => false
  | .quietArm => false
  | .resynced => false
  | .halt _ => false

/-- 45_transaction_sequencer.md R219's table read as a relation: the moves of the phase register that an event may make in the state
`s`, to a phase `p` other than the one it is in. `RESYNC` or `HALTED` after a failure is by `IS_LIVE` (60_exceptions.md R250, the
spec's decision D26). -/
def MayMove (s : State) (ev : InEvent) (p : Phase) : Prop :=
  match ev, s.ph with
  | .reset, _ => p = .reqSyncId
  | _, .halted => False
  | .ioErr, _ => p = .halted
  | .quiet, ph => ph = .resync ∧ p = .reqSyncId
  | .short, ph => (searching ph = true ∧ p = .halted)
      ∨ (insideFrame ph = true ∧ p = if s.cfg.isLive then .resync else .halted)
  | .byte b, .reqSyncId => b = s.cfg.expectedSlave ∧ p = .reqSyncFn
  | .byte b, .rspSyncId => b = s.cfg.expectedSlave ∧ p = .rspSyncFn
  | .byte b, .reqSyncFn => p =
      if syncAccept s.cfg b = false then .reqSyncId
      else if b ∈ ([1, 2, 3, 4, 5, 6] : List Byte) then .reqBody
      else if b ∈ ([15, 16] : List Byte) then .reqPrefix
      else if s.cfg.isLive then .resync else .halted
  | .byte b, .rspSyncFn => p = if syncAccept s.cfg b then .rspBc else .rspSyncId
  | .byte _, .reqPrefix => s.need = 1 ∧ p = .reqBody
  | .byte _, .rspBc => p = if exceptionFlag s.fn then .rspExc else .rspBody
  | .byte _, .reqBody => s.need = 1 ∧ (p = .rspSyncId ∨ p = if s.cfg.isLive then .resync else .halted)
  | .byte _, .rspExc => s.need = 1 ∧ (p = .reqSyncId ∨ p = if s.cfg.isLive then .resync else .halted)
  | .byte _, .rspBody => s.need = 1 ∧ (p = .reqSyncId ∨ p = if s.cfg.isLive then .resync else .halted)
  | .byte _, .resync => False

end Sys2Proof.Machine
end

