-- ==== Sys2Proof/Certificates/Slice0/Obligations.lean ====
section
/-! DEFINITION. The statements for the provers. Each docstring says which rule of spec/ a statement formalises, and names the decision
of 92_eei_decisions.md or the log entry where a clause rests on one. Every statement holds for every well-formed configuration. -/

open Sys2Proof Sys2Proof.Machine

/-! ### Encoding -/

/-- R77, R78, R80, R119, R139, R140: a frame written for a request-position instruction, whatever follows it, reads back as that
instruction with every operand. The position of the byte count is the spec's decision D8. -/
def Obligations.RequestEncodingRoundTrips : Prop :=
  ∀ (cfg : Config) (i : Instr) (frame rest : List Byte),
    cfg.wf = true → i.wf cfg = true → encode cfg i = .frame .req frame →
    decodeRequest cfg (frame ++ rest) = .ok (i, rest)

/-- R79, R81, R82, R119: the same in response position. -/
def Obligations.ResponseEncodingRoundTrips : Prop :=
  ∀ (cfg : Config) (i : Instr) (frame rest : List Byte),
    cfg.wf = true → i.wf cfg = true → encode cfg i = .frame .rsp frame →
    decodeResponse cfg (frame ++ rest) = .ok (i, rest)

/-- R182, R190 and R90, "A `REGMAP` with more entries adds rows": a row's sample reads back as that row, with its value and what its
entry says, and every sample is the encoding of the one well-formed row it reads as. That a further entry's row is a constructor by
kind is log entry 13. -/
def Obligations.SampleEncodingRoundTrips : Prop :=
  ∀ (cfg : Config) (addr value : Half), cfg.wf = true →
    (∀ i : Instr, i.wf cfg = true → encode cfg i = .sample addr value → decodeSample cfg addr value = i)
      ∧ (decodeSample cfg addr value).wf cfg = true ∧ encode cfg (decodeSample cfg addr value) = .sample addr value

/-- The other direction: bytes that decode are the encoding of what they decode to, followed by what is left over, so no two byte
sequences of one position stand for one frame. -/
def Obligations.DecodedFrameIsItsEncoding : Prop :=
  ∀ (cfg : Config) (d : Dir) (bytes rest : List Byte) (i : Instr),
    decode cfg (.frame d bytes) = .ok (i, rest) →
    i.wf cfg = true ∧ ∃ frame, encode cfg i = .frame d frame ∧ bytes = frame ++ rest

/-- R85: every value of the function byte has a row, in both positions. 262 more bytes are enough for any frame (R56). -/
def Obligations.EveryFunctionByteHasARow : Prop :=
  ∀ (cfg : Config) (f : Byte) (body : List Byte), cfg.wf = true → 262 ≤ body.length →
    (∃ i rest, decodeRequest cfg (cfg.expectedSlave :: f :: body) = .ok (i, rest))
      ∧ ∃ i rest, decodeResponse cfg (cfg.expectedSlave :: f :: body) = .ok (i, rest)

/-- R82: 18 of the 256 function bytes pass the synchroniser, whatever `FC_RSID` is. -/
def Obligations.EighteenFunctionBytesPass : Prop :=
  ∀ cfg : Config, cfg.wf = true →
    ((List.range 256).filter (fun n => syncAccept cfg (BitVec.ofNat 8 n))).length = 18

/-- Frames of the spec's rules R134, R138, R172 (0x04), R173 (0x84) and R125, and a sample of R193, decode to the rows they are
written for. -/
def Obligations.WrittenFramesDecode : Prop :=
  decode Config.default (.frame .req [0x01, 0x04, 0x81, 0x21, 0x00, 0x02, 0x09, 0xFD])
      = .ok (.reqF04 33057 0x00 0x02 0xFD09, [])
    ∧ decode Config.default
        (.frame .req [0x01, 0x10, 0xA7, 0xF8, 0x00, 0x02, 0x04, 0x00, 0x0A, 0x01, 0x02, 0x83, 0x29])
      = .ok (.reqF16 43000 2 [0x00, 0x0A, 0x01, 0x02] 0x2983, [])
    ∧ decode Config.default (.frame .rsp [0x01, 0x04, 0x02, 0x12, 0x34, 0xB4, 0x47])
      = .ok (.rspF04 [0x12, 0x34] 0x47B4, [])
    ∧ decode Config.default (.frame .rsp [0x01, 0x84, 0x01, 0x82, 0xC0]) = .ok (.rspxF04 0x01 0xC082, [])
    ∧ decode Config.default (.frame .req [0x01, 0x83]) = .ok (.reqExcF03, [])
    ∧ decode Config.default (.frame .rsp [0x01, 0x09]) = .ok (.noiseRsp 0x09, [])
    ∧ decode Config.default (.sample 33057 0x0000) = .ok (.curGenHi 0x0000, [])

/-! ### The checksum -/

/-- R102: the reflected register of R101 computes the checksum of the parameters of R100. -/
def Obligations.ReflectedCrcIsDirectCrc : Prop :=
  ∀ bytes : List Byte, crc16 bytes = crcDirect bytes

/-- R108 law 4: a sequence followed by its own checksum, low byte first, has checksum 0. -/
def Obligations.CrcResidueIsZero : Prop :=
  ∀ m : List Byte, crc16 (m ++ [loByte (crc16 m), hiByte (crc16 m)]) = 0

/-- R108 law 3: a valid frame with exactly one byte replaced, the two CRC bytes included, is not valid. -/
def Obligations.SingleByteCorruptionDetected : Prop :=
  ∀ (pre post : List Byte) (b b' : Byte), b ≠ b' → 2 ≤ pre.length + 1 + post.length →
    frameValid (pre ++ b :: post) = true → frameValid (pre ++ b' :: post) = false

/-- R104: whatever the frame kind, executing a complete frame writes `crc_calc` with the checksum of all its bytes but the last two
and `crc_rx` with the last two, low byte first, and reports as `valid` exactly whether they agree. -/
def Obligations.FrameCrcCoversItsBytes : Prop :=
  ∀ (s : State) (d : Dir) (frame : List Byte) (i : Instr),
    5 ≤ frame.length → decode s.cfg (.frame d frame) = .ok (i, []) →
    ∃ t e more, exec i s = .next t
      ∧ t.crcCalc = crc16 (frame.take (frame.length - 2))
      ∧ t.crcRx = joinBytes (frame.getD (frame.length - 1) 0) (frame.getD (frame.length - 2) 0)
      ∧ t.out = s.out ++ e :: more ∧ verdictOf e = some (decide (t.crcCalc = t.crcRx))

/-! ### Fetching a frame, one byte a step -/

/-- R117: a byte in a header search. The width and the saturation of the counter are the spec's decision D5. -/
def Obligations.HeaderSearchByte : Prop :=
  ∀ (s : State) (b : Byte) (rest : List InEvent) (search found : Phase),
    (search, found) ∈ [(Phase.reqSyncId, Phase.reqSyncFn), (Phase.rspSyncId, Phase.rspSyncFn)] →
    s.cfg.wf = true → s.ph = search → s.inp = .byte b :: rest →
    (b = s.cfg.expectedSlave →
        ∃ t, step s = .next t ∧ Stored s t 0 b
          ∧ t = { s with inp := rest, out := [], fb := t.fb, len := 1, ph := found })
      ∧ (b ≠ s.cfg.expectedSlave →
        step s = .next { s with
          inp := rest
          out := []
          skipped := BitVec.ofNat 32 (min (s.skipped.toNat + 1) 0xFFFFFFFF) })

/-- R80, with R118, R119 and R130: the function byte of a candidate header in request position. Rests on the spec's decisions D3, D4,
D6 and D7. -/
def Obligations.RequestFunctionByte : Prop :=
  ∀ (s : State) (f : Byte) (rest : List InEvent),
    s.cfg.wf = true → s.ph = .reqSyncFn → s.len = 1 → readByte s.fb 0 = some s.cfg.expectedSlave →
    s.inp = .byte f :: rest →
    (f ∈ ([1, 2, 3, 4, 5, 6] : List Byte) →
        ∃ t, step s = .next t ∧ Stored s t 1 f
          ∧ t = { s with inp := rest, out := [.header .req f s.skipped], fb := t.fb, len := 2, fn := f, need := 6,
                         ph := .reqBody })
      ∧ (f ∈ ([15, 16] : List Byte) →
        ∃ t, step s = .next t ∧ Stored s t 1 f
          ∧ t = { s with inp := rest, out := [.header .req f s.skipped], fb := t.fb, len := 2, fn := f, need := 5,
                         ph := .reqPrefix })
      ∧ (f = s.cfg.fcRsid ∨ f ∈ ([1, 2, 3, 4, 5, 6, 15, 16, s.cfg.fcRsid] : List Byte).map (0x80 ||| ·) →
        step s = .next (takeFailure (.unsupportedFunction f)
          { s with inp := rest, out := [.header .req f s.skipped], fn := f }))
      ∧ (f &&& 0x7F ∉ ([1, 2, 3, 4, 5, 6, 15, 16, s.cfg.fcRsid] : List Byte) →
        step s = .next { s with
          inp := rest
          out := []
          fb := []
          len := 0
          skipped := BitVec.ofNat 32 (min (s.skipped.toNat + 2) 0xFFFFFFFF)
          ph := .reqSyncId })

/-- The function byte of a candidate header in response position: accepted and reported, or skipped with the slave byte. Rests on
the spec's decisions D3 and D4. -/
def Obligations.ResponseFunctionByte : Prop :=
  ∀ (s : State) (f : Byte) (rest : List InEvent),
    s.cfg.wf = true → s.ph = .rspSyncFn → s.len = 1 → readByte s.fb 0 = some s.cfg.expectedSlave →
    s.inp = .byte f :: rest →
    (f &&& 0x7F ∈ ([1, 2, 3, 4, 5, 6, 15, 16, s.cfg.fcRsid] : List Byte) →
        ∃ t, step s = .next t ∧ Stored s t 1 f
          ∧ t = { s with inp := rest, out := [.header .rsp f s.skipped], fb := t.fb, len := 2, fn := f, ph := .rspBc })
      ∧ (f &&& 0x7F ∉ ([1, 2, 3, 4, 5, 6, 15, 16, s.cfg.fcRsid] : List Byte) →
        step s = .next { s with
          inp := rest
          out := []
          fb := []
          len := 0
          skipped := BitVec.ofNat 32 (min (s.skipped.toNat + 2) 0xFFFFFFFF)
          ph := .rspSyncId })

/-- R141: a byte of a request's body is stored and counted down. R141 and R143 complete the request by `fn`; that the last byte executes
what the collected bytes decode to is the model's choice, log entry 8. In a state that meets the frame invariant the two agree
(R33). -/
def Obligations.RequestBodyByte : Prop :=
  ∀ (s : State) (b : Byte) (rest : List InEvent),
    s.cfg.wf = true → s.ph = .reqBody → s.len < 264 → s.inp = .byte b :: rest →
    (1 < s.need →
        ∃ t, step s = .next t ∧ Stored s t s.len b
          ∧ t = { s with inp := rest, out := [], fb := t.fb, len := s.len + 1, need := s.need - 1 })
      ∧ (s.need = 1 → ∀ frame i, readFrame s.fb 0 s.len = .next frame →
        decodeRequest s.cfg (frame ++ [b]) = .ok (i, []) →
        ∃ t, step s = exec i t ∧ Stored s t s.len b
          ∧ t = { s with inp := rest, out := [], fb := t.fb, len := s.len + 1, need := 0 })

/-- R142: a byte of the prefix of a function 15 or 16 request; the fifth is the byte count (the spec's decision D8). -/
def Obligations.RequestPrefixByte : Prop :=
  ∀ (s : State) (b : Byte) (rest : List InEvent),
    s.cfg.wf = true → s.ph = .reqPrefix → s.len < 264 → s.inp = .byte b :: rest →
    (1 < s.need →
        ∃ t, step s = .next t ∧ Stored s t s.len b
          ∧ t = { s with inp := rest, out := [], fb := t.fb, len := s.len + 1, need := s.need - 1 })
      ∧ (s.need = 1 → s.len = 6 →
        ∃ t, step s = .next t ∧ Stored s t 6 b
          ∧ t = { s with inp := rest, out := [], fb := t.fb, len := 7, need := b.toNat + 2, ph := .reqBody })

/-- R157: the byte after a response header is the error code or the byte count. -/
def Obligations.ResponseThirdByte : Prop :=
  ∀ (s : State) (b : Byte) (rest : List InEvent),
    s.cfg.wf = true → s.ph = .rspBc → s.inp = .byte b :: rest →
    ∃ t, step s = .next t ∧ Stored s t 2 b
      ∧ t = { s with
          inp := rest
          out := []
          fb := t.fb
          len := 3
          need := if s.fn.getLsbD 7 then 2 else b.toNat + 2
          ph := if s.fn.getLsbD 7 then .rspExc else .rspBody }

/-- R162: a byte of a response's rest is stored and counted down. R162 chooses the completion by the phase; that the last byte executes
what the collected bytes decode to, whichever of the two phases it is, is the model's choice, log entry 8. In a state that meets
the frame invariant the two agree (R33). -/
def Obligations.ResponseBodyByte : Prop :=
  ∀ (s : State) (b : Byte) (rest : List InEvent),
    s.cfg.wf = true → s.ph = .rspExc ∨ s.ph = .rspBody → s.len < 264 → s.inp = .byte b :: rest →
    (1 < s.need →
        ∃ t, step s = .next t ∧ Stored s t s.len b
          ∧ t = { s with inp := rest, out := [], fb := t.fb, len := s.len + 1, need := s.need - 1 })
      ∧ (s.need = 1 → ∀ frame i, readFrame s.fb 0 s.len = .next frame →
        decodeResponse s.cfg (frame ++ [b]) = .ok (i, []) →
        ∃ t, step s = exec i t ∧ Stored s t s.len b
          ∧ t = { s with inp := rest, out := [], fb := t.fb, len := s.len + 1, need := 0 })

/-- A step runs the decoded instruction (log entry 8): when the bytes collected and the byte that arrives decode to an instruction,
the step is `exec` of it on the state in which the byte has been taken. Three cases: the last byte of a whole frame, a rejected
function byte (not stored, R119), and a function byte that is itself the end of the instruction (R139, R140). -/
def Obligations.StepRunsDecodedInstruction : Prop :=
  ∀ (s : State) (d : Dir) (b : Byte) (rest : List InEvent) (frame : List Byte) (i : Instr),
    s.cfg.wf = true → s.inp = .byte b :: rest → readFrame s.fb 0 s.len = .next frame →
    decode s.cfg (.frame d (frame ++ [b])) = .ok (i, []) →
    ((s.ph, d) ∈ [(Phase.reqBody, Dir.req), (Phase.rspExc, Dir.rsp), (Phase.rspBody, Dir.rsp)] →
        s.need = 1 → s.len < 264 →
        ∃ t, step s = exec i t ∧ Stored s t s.len b
          ∧ t = { s with inp := rest, out := [], fb := t.fb, len := s.len + 1, need := 0 })
      ∧ ((s.ph, d) ∈ [(Phase.reqSyncFn, Dir.req), (Phase.rspSyncFn, Dir.rsp)] → syncAccept s.cfg b = false →
        step s = exec i { s with inp := rest, out := [] })
      ∧ (s.ph = .reqSyncFn → d = .req → s.len = 1 → syncAccept s.cfg b = true → b ∉ requestFns →
        ∃ t, step s = exec i t ∧ Stored s t 1 b
          ∧ t = { s with inp := rest, out := [.header .req b s.skipped], fb := t.fb, len := 2, fn := b })

/-! ### Whole frames and a whole transaction, by running the steps -/

/-- Feeding the bytes of a complete request to a block that searches for one runs, in the last step, exactly that instruction, on
the state in which the frame has been collected (log entry 8). -/
def Obligations.RequestFrameRuns : Prop :=
  ∀ (s : State) (i : Instr) (frame : List Byte) (rest : List InEvent),
    s.cfg.wf = true → i.wf s.cfg = true → encode s.cfg i = .frame .req frame → 5 ≤ frame.length →
    s.ph = .reqSyncId → s.fb = [] → s.inp = frame.map .byte ++ rest →
    Host.Core.run Sys2Proof.core frame.length s = exec i { s with
      inp := rest
      out := []
      ph := .reqBody
      fb := cellsFrom 0 frame
      len := frame.length
      need := 0
      fn := frame.getD 1 0 }

/-- The same for a complete response and a block that searches for one. -/
def Obligations.ResponseFrameRuns : Prop :=
  ∀ (s : State) (i : Instr) (frame : List Byte) (rest : List InEvent),
    s.cfg.wf = true → i.wf s.cfg = true → encode s.cfg i = .frame .rsp frame → 5 ≤ frame.length →
    s.ph = .rspSyncId → s.fb = [] → s.inp = frame.map .byte ++ rest →
    Host.Core.run Sys2Proof.core frame.length s = exec i { s with
      inp := rest
      out := []
      ph := if (frame.getD 1 0).getLsbD 7 then .rspExc else .rspBody
      fb := cellsFrom 0 frame
      len := frame.length
      need := 0
      fn := frame.getD 1 0 }

/-- A transaction for any 32-bit quantity of the table: a valid function 4 request for its high-word address and a valid response
with both words leave, as the output of the last step, the response event and one measurement, high word times 65536 plus low word (or its two's-complement reading when the entry is
signed), and the block searching for the next request. Rests on the spec's decisions D12, D16, D17 and D28. -/
def Obligations.TransactionYieldsMeasurement : Prop :=
  ∀ (s : State) (q : Q32) (signed : Bool) (exp10 : Int) (unit : MeasUnit) (addr hi lo : Half)
    (request response : List Byte) (rest : List InEvent),
    s.cfg.wf = true → s.ph = .reqSyncId → s.fb = [] →
    lookupEntry s.cfg.regMap addr = some (.high q) →
    lookupEntry s.cfg.regMap (addr + 1) = some (.low q signed exp10 unit) →
    encode s.cfg (.reqF04 addr 0 2 (crc16 (s.cfg.expectedSlave :: 4 :: fixedBody addr 0 2)))
      = .frame .req request →
    encode s.cfg (.rspF04 [hiByte hi, loByte hi, hiByte lo, loByte lo]
        (crc16 [s.cfg.expectedSlave, 4, 4, hiByte hi, loByte hi, hiByte lo, loByte lo]))
      = .frame .rsp response →
    s.inp = (request ++ response).map .byte ++ rest →
    ∃ t c, Host.Core.run Sys2Proof.core (request ++ response).length s = .next t
      ∧ t.out = [.rspFrame 4 4 true c c true,
          .meas q.toQuantity
            (if signed then BitVec.toInt (hi ++ lo) else (hi.toNat * 65536 + lo.toNat : Int)) exp10 unit]
      ∧ t.ph = .reqSyncId ∧ t.inp = rest ∧ t.reqFn = 4 ∧ t.reqAddr = addr
      ∧ perGet t.pend q = false ∧ perGet t.acc q = 0

/-! ### What each instruction does -/

/-- R143: completing a request, for each of the eight rows with a request layout, valid (the hand-over of R144) or not (the failure
of R145, the spec's decision D9). Each line is a row, its function byte, its address, its byte count and the bytes between its
function byte and its CRC. The whole state is given, so everything not named is unchanged. -/
def Obligations.RequestCompletion : Prop :=
  ∀ (s : State) (a q : Half) (p2 p3 : Byte) (data : List Byte) (crc : Half)
    (i : Instr) (f : Byte) (bc : Option Byte) (body : List Byte),
    (i, f, bc, body) ∈ ([
        (.reqF01 a p2 p3 crc, 0x01, none, [hiByte a, loByte a, p2, p3]),
        (.reqF02 a p2 p3 crc, 0x02, none, [hiByte a, loByte a, p2, p3]),
        (.reqF03 a p2 p3 crc, 0x03, none, [hiByte a, loByte a, p2, p3]),
        (.reqF04 a p2 p3 crc, 0x04, none, [hiByte a, loByte a, p2, p3]),
        (.reqF05 a p2 p3 crc, 0x05, none, [hiByte a, loByte a, p2, p3]),
        (.reqF06 a p2 p3 crc, 0x06, none, [hiByte a, loByte a, p2, p3]),
        (.reqF15 a q data crc, 0x0F, some (BitVec.ofNat 8 data.length),
          [hiByte a, loByte a, hiByte q, loByte q, BitVec.ofNat 8 data.length] ++ data),
        (.reqF16 a q data crc, 0x10, some (BitVec.ofNat 8 data.length),
          [hiByte a, loByte a, hiByte q, loByte q, BitVec.ofNat 8 data.length] ++ data)]
      : List (Instr × Byte × Option Byte × List Byte)) →
    (crc16 (s.cfg.expectedSlave :: f :: body) = crc →
        exec i s = .next { s with
          crcCalc := crc
          crcRx := crc
          out := s.out ++ [.reqFrame f a bc true crc crc]
          reqFn := f
          reqAddr := a
          skipped := 0
          fb := []
          len := 0
          need := 0
          ph := .rspSyncId })
      ∧ (crc16 (s.cfg.expectedSlave :: f :: body) ≠ crc →
        exec i s = .next (takeFailure (.checksumMismatch (crc16 (s.cfg.expectedSlave :: f :: body)) crc) { s with
          crcCalc := crc16 (s.cfg.expectedSlave :: f :: body)
          crcRx := crc
          out := s.out ++ [.reqFrame f a bc false (crc16 (s.cfg.expectedSlave :: f :: body)) crc] }))

/-- R139 and R140 (the spec's decisions D6 and D7): the ten rows of a known function byte without a request layout take the failure
`UnsupportedFunction`, which is their effect. -/
def Obligations.UnsupportedRequestsFail : Prop :=
  ∀ (s : State) (i : Instr) (f : Byte),
    (i, f) ∈ ([(.reqRsid, s.cfg.fcRsid), (.reqExcF01, 0x81), (.reqExcF02, 0x82), (.reqExcF03, 0x83), (.reqExcF04, 0x84),
        (.reqExcF05, 0x85), (.reqExcF06, 0x86), (.reqExcF15, 0x8F), (.reqExcF16, 0x90),
        (.reqExcF17, 0x80 ||| s.cfg.fcRsid)] : List (Instr × Byte)) →
    exec i s = .next (if s.cfg.isLive then
        { s with failCause := .unsupportedFunction, failPh := s.ph, fb := [], len := 0, need := 0, ph := .resync,
                 out := s.out ++ [.fail .unsupportedFunction (.unsupportedFunction f), .quietArm] }
      else
        { s with failCause := .unsupportedFunction, failPh := s.ph, fb := [], len := 0, need := 0, ph := .halted,
                 haltCause := .unsupportedFunction,
                 out := s.out ++ [.fail .unsupportedFunction (.unsupportedFunction f), .halt .unsupportedFunction] })

/-- R163: completing a normal response, for each of the nine rows. Valid, its samples are decoded in order and the transaction ends
(R168, the spec's decision D28); invalid, it fails (R169). What the samples change is said by `SampleDecodedByTable` and
`DecoderTouchesOnlyAccumulators`. -/
def Obligations.NormalResponseCompletion : Prop :=
  ∀ (s : State) (payload : List Byte) (crc : Half) (i : Instr) (f : Byte),
    (i, f) ∈ ([(.rspF01 payload crc, 0x01), (.rspF02 payload crc, 0x02), (.rspF03 payload crc, 0x03),
        (.rspF04 payload crc, 0x04), (.rspF05 payload crc, 0x05), (.rspF06 payload crc, 0x06),
        (.rspF15 payload crc, 0x0F), (.rspF16 payload crc, 0x10), (.rspF17 payload crc, s.cfg.fcRsid)]
      : List (Instr × Byte)) →
    let bc : Byte := BitVec.ofNat 8 payload.length
    let own := crc16 (s.cfg.expectedSlave :: f :: bc :: payload)
    (own = crc →
        exec i s = .next { decodeAll (samples s.reqAddr payload) { s with
            crcCalc := crc
            crcRx := crc
            out := s.out ++ [.rspFrame f bc true crc crc (decide (f &&& 0x7F = s.reqFn))] } with
          skipped := 0
          fb := []
          len := 0
          need := 0
          ph := .reqSyncId })
      ∧ (own ≠ crc →
        exec i s = .next (takeFailure (.checksumMismatch own crc) { s with
          crcCalc := own
          crcRx := crc
          out := s.out ++ [.rspFrame f bc false own crc (decide (f &&& 0x7F = s.reqFn))] }))

/-- R170: completing an exception response, for each of the nine rows; valid it ends the transaction, invalid it fails (R171, the
spec's decision D33). -/
def Obligations.ExceptionResponseCompletion : Prop :=
  ∀ (s : State) (err : Byte) (crc : Half) (i : Instr) (f : Byte),
    (i, f) ∈ ([(.rspxF01 err crc, 0x81), (.rspxF02 err crc, 0x82), (.rspxF03 err crc, 0x83), (.rspxF04 err crc, 0x84),
        (.rspxF05 err crc, 0x85), (.rspxF06 err crc, 0x86), (.rspxF15 err crc, 0x8F), (.rspxF16 err crc, 0x90),
        (.rspxF17 err crc, 0x80 ||| s.cfg.fcRsid)] : List (Instr × Byte)) →
    let own := crc16 [s.cfg.expectedSlave, f, err]
    (own = crc →
        exec i s = .next { s with
          crcCalc := crc
          crcRx := crc
          out := s.out ++ [.excFrame f err true crc crc (decide (f &&& 0x7F = s.reqFn))]
          skipped := 0
          fb := []
          len := 0
          need := 0
          ph := .reqSyncId })
      ∧ (own ≠ crc →
        exec i s = .next (takeFailure (.checksumMismatch own crc) { s with
          crcCalc := own
          crcRx := crc
          out := s.out ++ [.excFrame f err false own crc (decide (f &&& 0x7F = s.reqFn))] }))

/-- R119 (the spec's decision D4): a rejected header is skipped, both bytes counted, and nothing else happens. -/
def Obligations.NoiseIsSkipped : Prop :=
  ∀ (s : State) (f : Byte) (i : Instr) (search : Phase),
    (i, search) ∈ ([(.noiseReq f, .reqSyncId), (.noiseRsp f, .rspSyncId)] : List (Instr × Phase)) →
    exec i s = .next { s with
      fb := []
      len := 0
      skipped := BitVec.ofNat 32 (min (s.skipped.toNat + 2) 0xFFFFFFFF)
      ph := search }

/-- R192 and R195: a single-register row emits its measurement and changes nothing else. That `ENERGY.TODAY` is unsigned is the spec's
decision D18. -/
def Obligations.SingleRegisterRows : Prop :=
  ∀ (s : State) (v : Half),
    exec (.energyToday v) s = .next { s with out := s.out ++ [.meas .energyToday (v.toNat : Int) (-1) .kilowattHour] }
      ∧ exec (.battSoc v) s = .next { s with out := s.out ++ [.meas .battSoc (v.toNat : Int) 0 .percent] }

/-- R193 and R196: a high-word row stores its word, marks it pending and emits nothing. -/
def Obligations.HighWordRows : Prop :=
  ∀ (s : State) (v : Half),
    exec (.curGenHi v) s = .next { s with
        acc := { s.acc with curGen := BitVec.ofNat 32 (v.toNat * 65536) }
        pend := { s.pend with curGen := true } }
      ∧ exec (.meterHi v) s = .next { s with
        acc := { s.acc with meterTotalP := BitVec.ofNat 32 (v.toNat * 65536) }
        pend := { s.pend with meterTotalP := true } }

/-- R194 and R197: a low-word row completes its pending high word into a measurement and clears it (the spec's decision D16), or
reports that there is none (D15). -/
def Obligations.LowWordRows : Prop :=
  ∀ (s : State) (v : Half),
    (s.pend.curGen = true →
        exec (.curGenLo v) s = .next { s with
          acc := { s.acc with curGen := 0 }
          pend := { s.pend with curGen := false }
          out := s.out ++ [.meas .curGen ((s.acc.curGen + v.setWidth 32).toNat : Int) 0 .watt] })
      ∧ (s.pend.curGen = false → exec (.curGenLo v) s = .next { s with out := s.out ++ [.lowWithoutHigh .curGen] })
      ∧ (s.pend.meterTotalP = true →
        exec (.meterLo v) s = .next { s with
          acc := { s.acc with meterTotalP := 0 }
          pend := { s.pend with meterTotalP := false }
          out := s.out ++ [.meas .meterTotalP (s.acc.meterTotalP + v.setWidth 32).toInt (-3) .kilowatt] })
      ∧ (s.pend.meterTotalP = false →
        exec (.meterLo v) s = .next { s with out := s.out ++ [.lowWithoutHigh .meterTotalP] })

/-- R190: a sample at an unmapped address changes nothing and emits nothing. -/
def Obligations.UnmappedSampleIgnored : Prop :=
  ∀ (s : State) (addr v : Half),
    exec (.unmapped addr v) s = .next s
      ∧ (lookupEntry s.cfg.regMap addr = none → decodeRegister addr v s = s)

/-! ### The register decoder -/

/-- R184: what a sample does, by the entry that the table holds for its address, the open entries included. Rests on the spec's
decisions D15, D16, D17 and D19. -/
def Obligations.SampleDecodedByTable : Prop :=
  ∀ (s : State) (addr value : Half), s.cfg.wf = true →
    match lookupEntry s.cfg.regMap addr with
    | none => decodeRegister addr value s = s
    | some (.single q signed exp10 unit) =>
      decodeRegister addr value s = { s with
        out := s.out ++ [.meas q (if signed then value.toInt else (value.toNat : Int)) exp10 unit] }
    | some (.high q) =>
      decodeRegister addr value s = { s with
        acc := perSet s.acc q (value.setWidth 32 <<< 16)
        pend := perSet s.pend q true }
    | some (.low q signed exp10 unit) =>
      decodeRegister addr value s =
        if perGet s.pend q then { s with
          acc := perSet s.acc q 0
          pend := perSet s.pend q false
          out := s.out ++ [.meas q.toQuantity
            (if signed then (perGet s.acc q + value.setWidth 32).toInt
              else ((perGet s.acc q + value.setWidth 32).toNat : Int)) exp10 unit] }
        else { s with out := s.out ++ [.lowWithoutHigh q] }

/-- A sample does what `exec` of its row does; and R90, "A `REGMAP` with more entries adds rows of the same shape": `exec` of such a row
has the effect that R185 to R188 give its kind of entry, the whole next state given. That these rows are constructors by kind is log
entry 13. Rests on the spec's decisions D15, D16, D17 and D19. -/
def Obligations.SampleRunsItsRow : Prop :=
  ∀ (s : State) (addr value : Half),
    exec (decodeSample s.cfg addr value) s = .next (decodeRegister addr value s)
      ∧ (∀ q signed exp10 unit, exec (.openSingle addr q signed exp10 unit value) s = .next { s with
          out := s.out ++ [.meas q (if signed then value.toInt else (value.toNat : Int)) exp10 unit] })
      ∧ (∀ q, exec (.openHigh addr q value) s = .next { s with
          acc := perSet s.acc q (BitVec.ofNat 32 (value.toNat * 65536))
          pend := perSet s.pend q true })
      ∧ ∀ q signed exp10 unit, exec (.openLow addr q signed exp10 unit value) s = .next (
          if perGet s.pend q then { s with
            acc := perSet s.acc q 0
            pend := perSet s.pend q false
            out := s.out ++ [.meas q.toQuantity
              (if signed then (perGet s.acc q + value.setWidth 32).toInt
                else ((perGet s.acc q + value.setWidth 32).toNat : Int)) exp10 unit] }
          else { s with out := s.out ++ [.lowWithoutHigh q] })

/-- The samples of a payload (the spec's decisions D12 and D13): one per pair of bytes, in order, at consecutive addresses modulo
65536, big-endian; an odd last byte belongs to none. -/
def Obligations.SamplesOfAPayload : Prop :=
  ∀ (addr : Half) (payload : List Byte),
    (samples addr payload).length = payload.length / 2
      ∧ ∀ i, i < payload.length / 2 →
        (samples addr payload)[i]? = some (BitVec.ofNat 16 ((addr.toNat + i) % 65536),
          BitVec.ofNat 16 ((payload.getD (2 * i) 0).toNat * 256 + (payload.getD (2 * i + 1) 0).toNat))

/-- R201 items 1, 2 and 4: a high word, any samples that touch neither address of its quantity, and the low word give what those
samples alone give, and then the one measurement of the two words; every other quantity is left as those samples leave it. Rests on
the spec's decision D16. -/
def Obligations.PairJoinsAcrossOtherSamples : Prop :=
  ∀ (s : State) (q : Q32) (signed : Bool) (exp10 : Int) (unit : MeasUnit) (addr hi lo : Half)
    (between : List (Half × Half)),
    s.cfg.wf = true →
    lookupEntry s.cfg.regMap addr = some (.high q) →
    lookupEntry s.cfg.regMap (addr + 1) = some (.low q signed exp10 unit) →
    (∀ p ∈ between, p.1 ≠ addr ∧ p.1 ≠ addr + 1) →
    let t := decodeAll ((addr, hi) :: between ++ [(addr + 1, lo)]) s
    let u := decodeAll between s
    t.out = u.out ++ [.meas q.toQuantity
        (if signed then BitVec.toInt (hi ++ lo) else (hi.toNat * 65536 + lo.toNat : Int)) exp10 unit]
      ∧ perGet t.pend q = false ∧ perGet t.acc q = 0
      ∧ ∀ r, r ≠ q → perGet t.acc r = perGet u.acc r ∧ perGet t.pend r = perGet u.pend r

/-- R184: the decoder writes nothing but the accumulator file, and emits at most one event of its own per sample. -/
def Obligations.DecoderTouchesOnlyAccumulators : Prop :=
  ∀ (s : State) (xs : List (Half × Half)),
    ∃ acc pend more, decodeAll xs s = { s with acc := acc, pend := pend, out := s.out ++ more }
      ∧ more.length ≤ xs.length ∧ ∀ e ∈ more, fromDecoder e = true

/-! ### Failures and system events -/

/-- R250: failure entry for the three causes that have a live branch. The sticky registers it writes are the spec's decision D34. -/
def Obligations.FailureEntry : Prop :=
  ∀ (s : State) (info : FailInfo) (cause : Cause),
    (∃ ph len need, info = .shortRead ph len need ∧ cause = .shortRead)
      ∨ (∃ c r, info = .checksumMismatch c r ∧ cause = .checksumMismatch)
      ∨ (∃ f, info = .unsupportedFunction f ∧ cause = .unsupportedFunction) →
    (s.cfg.isLive = true →
        takeFailure info s = { s with failCause := cause, failPh := s.ph, fb := [], len := 0, need := 0, ph := .resync,
                                      out := s.out ++ [.fail cause info, .quietArm] })
      ∧ (s.cfg.isLive = false →
        takeFailure info s = { s with failCause := cause, failPh := s.ph, fb := [], len := 0, need := 0, ph := .halted,
                                      haltCause := cause, out := s.out ++ [.fail cause info, .halt cause] })

/-- R243: `Short` inside a frame takes the failure `ShortRead`; the partial frame is dropped and no frame event is emitted for it. What it
records is the spec's decision D34. -/
def Obligations.ShortInsideFrame : Prop :=
  ∀ (s : State) (rest : List InEvent),
    s.cfg.wf = true → s.ph ∈ [Phase.reqPrefix, .reqBody, .rspBc, .rspExc, .rspBody] → s.inp = .short :: rest →
    step s = .next (if s.cfg.isLive then
        { s with inp := rest, failCause := .shortRead, failPh := s.ph, fb := [], len := 0, need := 0, ph := .resync,
                 out := [.fail .shortRead (.shortRead s.ph s.len s.need), .quietArm] }
      else
        { s with inp := rest, failCause := .shortRead, failPh := s.ph, fb := [], len := 0, need := 0, ph := .halted,
                 haltCause := .shortRead,
                 out := [.fail .shortRead (.shortRead s.ph s.len s.need), .halt .shortRead] })

/-- R246 (the spec's decisions D22 and D32): `Short` in a header search ends the run, on a live link too, and `clean_eof` tells a
clean end. -/
def Obligations.ShortInSearchHalts : Prop :=
  ∀ (s : State) (rest : List InEvent),
    s.cfg.wf = true → s.ph ∈ [Phase.reqSyncId, .reqSyncFn, .rspSyncId, .rspSyncFn] → s.inp = .short :: rest →
    step s = .next { s with
      inp := rest
      cleanEof := decide (s.ph = .reqSyncId ∧ s.skipped = 0)
      failCause := .syncLost
      failPh := s.ph
      fb := []
      len := 0
      need := 0
      haltCause := .syncLost
      ph := .halted
      out := [.fail .syncLost (.syncLost s.ph s.skipped), .halt .syncLost] }

/-- R247 (the spec's decision D23): `IoErr` ends the run from every phase but `HALTED`. -/
def Obligations.HardErrorHalts : Prop :=
  ∀ (s : State) (rest : List InEvent),
    s.cfg.wf = true → s.ph ≠ .halted → s.inp = .ioErr :: rest →
    step s = .next { s with
      inp := rest
      failCause := .ioError
      failPh := s.ph
      fb := []
      len := 0
      need := 0
      haltCause := .ioError
      ph := .halted
      out := [.fail .ioError (.ioError s.ph), .halt .ioError] }

/-- R264: `Quiet` in `RESYNC` returns to a search for a request, and nothing else does: a step out of `RESYNC` into a parsing phase
took `Quiet`, or was the reset of R218. -/
def Obligations.QuietReturnsFromFailure : Prop :=
  (∀ (s : State) (rest : List InEvent),
    s.cfg.wf = true → s.ph = .resync → s.inp = .quiet :: rest →
    step s = .next { s with
      inp := rest
      skipped := 0
      fb := []
      len := 0
      need := 0
      ph := .reqSyncId
      out := [.resynced] })
    ∧ ∀ s t : State, step s = .next t → s.ph.mode = .resyncing → t.ph.mode = .synced →
      ∃ rest, s.inp = .quiet :: rest ∨ s.inp = .reset :: rest

/-- R263, R265 and R266 (the spec's decisions D25 and D26): in `RESYNC` a byte only re-arms the timer and `Short` does nothing;
`Quiet` outside `RESYNC` does nothing. -/
def Obligations.EventsWithoutEffect : Prop :=
  ∀ (s : State) (rest : List InEvent), s.cfg.wf = true →
    (∀ b, s.ph = .resync → s.inp = .byte b :: rest → step s = .next { s with inp := rest, out := [.quietArm] })
      ∧ (s.ph = .resync → s.inp = .short :: rest → step s = .next { s with inp := rest, out := [] })
      ∧ (s.ph ≠ .resync → s.inp = .quiet :: rest → step s = .next { s with inp := rest, out := [] })

/-- R216, R217 and R218 (the spec's decisions D26 and D27): `HALTED` absorbs every event but `Reset`, and `Reset` works in every
phase. That in `HALTED` the event is taken off the input is the model's choice, log entry 15: R41 has the block not consume bytes
there. That `Reset` keeps the configuration and the events still to arrive is log entry 16. -/
def Obligations.HaltedAbsorbsAndResetClears : Prop :=
  ∀ (s : State) (ev : InEvent) (rest : List InEvent), s.cfg.wf = true → s.inp = ev :: rest →
    (s.ph = .halted → ev ≠ .reset → step s = .next { s with inp := rest, out := [] })
      ∧ (ev = .reset → step s = .next { State.reset with cfg := s.cfg, inp := rest })

/-- What a step does without an event (log entry 6), and that an ill-formed configuration is refused (R11, log entry 19). -/
def Obligations.WaitingAndRefusal : Prop :=
  ∀ s : State,
    (s.cfg.wf = true → s.inp = [] → step s = .next { s with out := [] })
      ∧ (s.cfg.wf = false → step s = .refused .illFormedConfig)

/-! ### Reset and invariants -/

/-- The reset values of R46 (the spec's decision D27). -/
def Obligations.ResetValues : Prop :=
  State.reset.ph = .reqSyncId ∧ State.reset.len = 0 ∧ State.reset.need = 0 ∧ State.reset.fb = []
    ∧ State.reset.fn = 0 ∧ State.reset.reqFn = 0 ∧ State.reset.reqAddr = 0 ∧ State.reset.skipped = 0
    ∧ (∀ q, perGet State.reset.acc q = 0) ∧ (∀ q, perGet State.reset.pend q = false)
    ∧ State.reset.crcCalc = 0 ∧ State.reset.crcRx = 0 ∧ State.reset.failCause = .none
    ∧ State.reset.haltCause = .none ∧ State.reset.failPh = .reqSyncId ∧ State.reset.cleanEof = false

/-- The three invariants hold at reset. -/
def Obligations.InvariantsAtReset : Prop :=
  FrameInv State.reset ∧ AccInv State.reset ∧ StatusInv State.reset

/-- R33 with R22, R23, R27: the phase invariants, that the buffer is canonical and holds exactly `len` bytes, and that its header is
the accepted one, are kept by every step. -/
def Obligations.FrameInvariantKept : Prop :=
  ∀ s t : State, FrameInv s → step s = .next t → FrameInv t

/-- R8 and R215, "total": from every state that meets the frame invariant a step answers a next state. It never faults and never
refuses, whatever arrives. -/
def Obligations.StepNeverStops : Prop :=
  ∀ s : State, FrameInv s → ∃ t, step s = .next t

/-- R28 and R201 item 5: nothing pending means 0, and the low half of an accumulator is always 0. -/
def Obligations.AccumulatorInvariantKept : Prop :=
  ∀ s t : State, AccInv s → step s = .next t → AccInv t

/-- R30 with R250 and R257: the status registers tell the mode. -/
def Obligations.StatusInvariantKept : Prop :=
  ∀ s t : State, StatusInv s → step s = .next t → StatusInv t

/-! ### Rules about the whole machine -/

/-- R144, "the only place `req_fn` and `req_addr` are written": a step that changes either was a reset, or completed a valid request
and went on to search for its response. -/
def Obligations.RequestRegistersWriter : Prop :=
  ∀ s t : State, FrameInv s → step s = .next t → (t.reqFn ≠ s.reqFn ∨ t.reqAddr ≠ s.reqAddr) →
    (∃ rest, s.inp = .reset :: rest)
      ∨ (s.ph = .reqBody ∧ t.ph = .rspSyncId
        ∧ ∃ bc c, t.out = [.reqFrame t.reqFn t.reqAddr bc true c c])

/-- R271: a measurement or a lone low word is emitted only by a step that completes a valid normal response, after its frame
event. -/
def Obligations.MeasurementsOnlyFromValidResponses : Prop :=
  ∀ s t : State, FrameInv s → step s = .next t → (∃ e ∈ t.out, fromDecoder e = true) →
    s.ph = .rspBody ∧ ∃ fn bc c m more, t.out = .rspFrame fn bc true c c m :: more

/-- R28, R198, R251, R291: no failure, no recovery and no end of a transaction changes the accumulator file; only a valid normal
response and `Reset` do. -/
def Obligations.AccumulatorsOutliveFailures : Prop :=
  ∀ s t : State, FrameInv s → step s = .next t → (t.acc ≠ s.acc ∨ t.pend ≠ s.pend) →
    (∃ rest, s.inp = .reset :: rest)
      ∨ (s.ph = .rspBody ∧ t.ph = .reqSyncId ∧ ∃ fn bc c m more, t.out = .rspFrame fn bc true c c m :: more)

/-- R225: a step emits at most 128 events. -/
def Obligations.OutputIsBounded : Prop :=
  ∀ s t : State, step s = .next t → t.out.length ≤ 128

/-- R241 and R252: a failure is the last thing a step does: its report is followed by exactly one event, the arming of the timer or
the halt for the same cause, no other report precedes it, and the decoder emits nothing in that step. -/
def Obligations.FailureEndsItsStep : Prop :=
  ∀ (s t : State) (cause : Cause) (info : FailInfo), step s = .next t → .fail cause info ∈ t.out →
    ∃ pre e, t.out = pre ++ [.fail cause info, e] ∧ (e = .quietArm ∨ e = .halt cause) ∧ info.cause = cause
      ∧ (∀ o ∈ pre, fromDecoder o = false ∧ ∀ c i, o ≠ .fail c i) ∧ t.failCause = cause ∧ t.failPh = s.ph

/-- R250 and R257: on a capture no step arms the timer and none resynchronises. -/
def Obligations.CaptureNeverWaits : Prop :=
  ∀ s t : State, s.cfg.isLive = false → StatusInv s → step s = .next t →
    .quietArm ∉ t.out ∧ .resynced ∉ t.out ∧ t.ph ≠ .resync

/-- R217 (the spec's decision D26): after a halt any run of events without `Reset` leaves the block as it is and emits nothing. That the
events are taken off the input (`inp := rest`) is the model's choice, log entry 15: R41 has the block not consume bytes there. -/
def Obligations.HaltIsFinal : Prop :=
  ∀ (s : State) (evs rest : List InEvent),
    s.cfg.wf = true → s.ph = .halted → evs ≠ [] → .reset ∉ evs → s.inp = evs ++ rest →
    Host.Core.run Sys2Proof.core evs.length s = .next { s with inp := rest, out := [] }

/-- R285 and R40: no step changes the configuration, and one that has an event to take takes exactly the first. The model's choices in
it: the input and the configuration stand in the state (log entries 1 and 5), a step with nothing to arrive takes no event (log
entry 6), and in `HALTED` the event is taken too (log entry 15, where R41 has the block not consume bytes). -/
def Obligations.ConfigurationConstant : Prop :=
  ∀ s t : State, step s = .next t → t.cfg = s.cfg ∧ t.inp = s.inp.tail

/-- R288 with R246 and R250: on a live link, a platform that keeps its contract and reports no hard error never makes the block
halt. -/
def Obligations.LiveRunGoesOn : Prop :=
  ∀ (s t : State) (ev : InEvent) (rest : List InEvent),
    s.cfg.isLive = true → s.ph ≠ .halted → s.inp = ev :: rest → platformMay s ev = true → ev ≠ .ioErr →
    step s = .next t → t.ph ≠ .halted

/-- R219, "Any pair of phase and event not listed leaves `ph` as it is": a step that changes the phase register makes a move of the
rule's table. The verdict of the CRC chooses between the two ends of a frame in the statements about the rows. -/
def Obligations.PhaseMovesOnlyAlongItsTable : Prop :=
  ∀ (s t : State) (ev : InEvent) (rest : List InEvent),
    FrameInv s → s.inp = ev :: rest → step s = .next t → t.ph ≠ s.ph → MayMove s ev t.ph
end

