-- ==== Sys2Proof/Laws/State.lean ====
section
/-! SUPPORT. What each named update leaves in each field of the state. -/

namespace Sys2Proof.Machine

/-! ### `emit` -/

@[simp] theorem emit_cfg (e : OutEvent) (s : State) : (emit e s).cfg = s.cfg := rfl
@[simp] theorem emit_ph (e : OutEvent) (s : State) : (emit e s).ph = s.ph := rfl
@[simp] theorem emit_len (e : OutEvent) (s : State) : (emit e s).len = s.len := rfl
@[simp] theorem emit_need (e : OutEvent) (s : State) : (emit e s).need = s.need := rfl
@[simp] theorem emit_fb (e : OutEvent) (s : State) : (emit e s).fb = s.fb := rfl
@[simp] theorem emit_fn (e : OutEvent) (s : State) : (emit e s).fn = s.fn := rfl
@[simp] theorem emit_reqFn (e : OutEvent) (s : State) : (emit e s).reqFn = s.reqFn := rfl
@[simp] theorem emit_reqAddr (e : OutEvent) (s : State) : (emit e s).reqAddr = s.reqAddr := rfl
@[simp] theorem emit_skipped (e : OutEvent) (s : State) : (emit e s).skipped = s.skipped := rfl
@[simp] theorem emit_acc (e : OutEvent) (s : State) : (emit e s).acc = s.acc := rfl
@[simp] theorem emit_pend (e : OutEvent) (s : State) : (emit e s).pend = s.pend := rfl
@[simp] theorem emit_crcCalc (e : OutEvent) (s : State) : (emit e s).crcCalc = s.crcCalc := rfl
@[simp] theorem emit_crcRx (e : OutEvent) (s : State) : (emit e s).crcRx = s.crcRx := rfl
@[simp] theorem emit_failCause (e : OutEvent) (s : State) : (emit e s).failCause = s.failCause := rfl
@[simp] theorem emit_failPh (e : OutEvent) (s : State) : (emit e s).failPh = s.failPh := rfl
@[simp] theorem emit_haltCause (e : OutEvent) (s : State) : (emit e s).haltCause = s.haltCause := rfl
@[simp] theorem emit_cleanEof (e : OutEvent) (s : State) : (emit e s).cleanEof = s.cleanEof := rfl
@[simp] theorem emit_inp (e : OutEvent) (s : State) : (emit e s).inp = s.inp := rfl
@[simp] theorem emit_out (e : OutEvent) (s : State) : (emit e s).out = s.out ++ [e] := rfl

/-! ### `dropFrame` -/

@[simp] theorem dropFrame_cfg (s : State) : (dropFrame s).cfg = s.cfg := rfl
@[simp] theorem dropFrame_ph (s : State) : (dropFrame s).ph = s.ph := rfl
@[simp] theorem dropFrame_len (s : State) : (dropFrame s).len = 0 := rfl
@[simp] theorem dropFrame_need (s : State) : (dropFrame s).need = s.need := rfl
@[simp] theorem dropFrame_fb (s : State) : (dropFrame s).fb = [] := rfl
@[simp] theorem dropFrame_fn (s : State) : (dropFrame s).fn = s.fn := rfl
@[simp] theorem dropFrame_reqFn (s : State) : (dropFrame s).reqFn = s.reqFn := rfl
@[simp] theorem dropFrame_reqAddr (s : State) : (dropFrame s).reqAddr = s.reqAddr := rfl
@[simp] theorem dropFrame_skipped (s : State) : (dropFrame s).skipped = s.skipped := rfl
@[simp] theorem dropFrame_acc (s : State) : (dropFrame s).acc = s.acc := rfl
@[simp] theorem dropFrame_pend (s : State) : (dropFrame s).pend = s.pend := rfl
@[simp] theorem dropFrame_crcCalc (s : State) : (dropFrame s).crcCalc = s.crcCalc := rfl
@[simp] theorem dropFrame_crcRx (s : State) : (dropFrame s).crcRx = s.crcRx := rfl
@[simp] theorem dropFrame_failCause (s : State) : (dropFrame s).failCause = s.failCause := rfl
@[simp] theorem dropFrame_failPh (s : State) : (dropFrame s).failPh = s.failPh := rfl
@[simp] theorem dropFrame_haltCause (s : State) : (dropFrame s).haltCause = s.haltCause := rfl
@[simp] theorem dropFrame_cleanEof (s : State) : (dropFrame s).cleanEof = s.cleanEof := rfl
@[simp] theorem dropFrame_inp (s : State) : (dropFrame s).inp = s.inp := rfl
@[simp] theorem dropFrame_out (s : State) : (dropFrame s).out = s.out := rfl

/-! ### `startSearch` -/

@[simp] theorem startSearch_cfg (p : Phase) (s : State) : (startSearch p s).cfg = s.cfg := rfl
@[simp] theorem startSearch_ph (p : Phase) (s : State) : (startSearch p s).ph = p := rfl
@[simp] theorem startSearch_len (p : Phase) (s : State) : (startSearch p s).len = 0 := rfl
@[simp] theorem startSearch_need (p : Phase) (s : State) : (startSearch p s).need = 0 := rfl
@[simp] theorem startSearch_fb (p : Phase) (s : State) : (startSearch p s).fb = [] := rfl
@[simp] theorem startSearch_fn (p : Phase) (s : State) : (startSearch p s).fn = s.fn := rfl
@[simp] theorem startSearch_reqFn (p : Phase) (s : State) : (startSearch p s).reqFn = s.reqFn := rfl
@[simp] theorem startSearch_reqAddr (p : Phase) (s : State) : (startSearch p s).reqAddr = s.reqAddr := rfl
@[simp] theorem startSearch_skipped (p : Phase) (s : State) : (startSearch p s).skipped = 0 := rfl
@[simp] theorem startSearch_acc (p : Phase) (s : State) : (startSearch p s).acc = s.acc := rfl
@[simp] theorem startSearch_pend (p : Phase) (s : State) : (startSearch p s).pend = s.pend := rfl
@[simp] theorem startSearch_crcCalc (p : Phase) (s : State) : (startSearch p s).crcCalc = s.crcCalc := rfl
@[simp] theorem startSearch_crcRx (p : Phase) (s : State) : (startSearch p s).crcRx = s.crcRx := rfl
@[simp] theorem startSearch_failCause (p : Phase) (s : State) : (startSearch p s).failCause = s.failCause := rfl
@[simp] theorem startSearch_failPh (p : Phase) (s : State) : (startSearch p s).failPh = s.failPh := rfl
@[simp] theorem startSearch_haltCause (p : Phase) (s : State) : (startSearch p s).haltCause = s.haltCause := rfl
@[simp] theorem startSearch_cleanEof (p : Phase) (s : State) : (startSearch p s).cleanEof = s.cleanEof := rfl
@[simp] theorem startSearch_inp (p : Phase) (s : State) : (startSearch p s).inp = s.inp := rfl
@[simp] theorem startSearch_out (p : Phase) (s : State) : (startSearch p s).out = s.out := rfl

/-! ### `noteCrc` -/

@[simp] theorem noteCrc_cfg (c r : Half) (s : State) : (noteCrc c r s).cfg = s.cfg := rfl
@[simp] theorem noteCrc_ph (c r : Half) (s : State) : (noteCrc c r s).ph = s.ph := rfl
@[simp] theorem noteCrc_len (c r : Half) (s : State) : (noteCrc c r s).len = s.len := rfl
@[simp] theorem noteCrc_need (c r : Half) (s : State) : (noteCrc c r s).need = s.need := rfl
@[simp] theorem noteCrc_fb (c r : Half) (s : State) : (noteCrc c r s).fb = s.fb := rfl
@[simp] theorem noteCrc_fn (c r : Half) (s : State) : (noteCrc c r s).fn = s.fn := rfl
@[simp] theorem noteCrc_reqFn (c r : Half) (s : State) : (noteCrc c r s).reqFn = s.reqFn := rfl
@[simp] theorem noteCrc_reqAddr (c r : Half) (s : State) : (noteCrc c r s).reqAddr = s.reqAddr := rfl
@[simp] theorem noteCrc_skipped (c r : Half) (s : State) : (noteCrc c r s).skipped = s.skipped := rfl
@[simp] theorem noteCrc_acc (c r : Half) (s : State) : (noteCrc c r s).acc = s.acc := rfl
@[simp] theorem noteCrc_pend (c r : Half) (s : State) : (noteCrc c r s).pend = s.pend := rfl
@[simp] theorem noteCrc_crcCalc (c r : Half) (s : State) : (noteCrc c r s).crcCalc = c := rfl
@[simp] theorem noteCrc_crcRx (c r : Half) (s : State) : (noteCrc c r s).crcRx = r := rfl
@[simp] theorem noteCrc_failCause (c r : Half) (s : State) : (noteCrc c r s).failCause = s.failCause := rfl
@[simp] theorem noteCrc_failPh (c r : Half) (s : State) : (noteCrc c r s).failPh = s.failPh := rfl
@[simp] theorem noteCrc_haltCause (c r : Half) (s : State) : (noteCrc c r s).haltCause = s.haltCause := rfl
@[simp] theorem noteCrc_cleanEof (c r : Half) (s : State) : (noteCrc c r s).cleanEof = s.cleanEof := rfl
@[simp] theorem noteCrc_inp (c r : Half) (s : State) : (noteCrc c r s).inp = s.inp := rfl
@[simp] theorem noteCrc_out (c r : Half) (s : State) : (noteCrc c r s).out = s.out := rfl

/-! ### `setPair` -/

@[simp] theorem setPair_cfg (q : Q32) (a : Word) (p : Bool) (s : State) : (setPair q a p s).cfg = s.cfg := rfl
@[simp] theorem setPair_ph (q : Q32) (a : Word) (p : Bool) (s : State) : (setPair q a p s).ph = s.ph := rfl
@[simp] theorem setPair_len (q : Q32) (a : Word) (p : Bool) (s : State) : (setPair q a p s).len = s.len := rfl
@[simp] theorem setPair_need (q : Q32) (a : Word) (p : Bool) (s : State) : (setPair q a p s).need = s.need := rfl
@[simp] theorem setPair_fb (q : Q32) (a : Word) (p : Bool) (s : State) : (setPair q a p s).fb = s.fb := rfl
@[simp] theorem setPair_fn (q : Q32) (a : Word) (p : Bool) (s : State) : (setPair q a p s).fn = s.fn := rfl
@[simp] theorem setPair_reqFn (q : Q32) (a : Word) (p : Bool) (s : State) : (setPair q a p s).reqFn = s.reqFn := rfl
@[simp] theorem setPair_reqAddr (q : Q32) (a : Word) (p : Bool) (s : State) : (setPair q a p s).reqAddr = s.reqAddr := rfl
@[simp] theorem setPair_skipped (q : Q32) (a : Word) (p : Bool) (s : State) : (setPair q a p s).skipped = s.skipped := rfl
@[simp] theorem setPair_acc (q : Q32) (a : Word) (p : Bool) (s : State) : (setPair q a p s).acc = perSet s.acc q a := rfl
@[simp] theorem setPair_pend (q : Q32) (a : Word) (p : Bool) (s : State) : (setPair q a p s).pend = perSet s.pend q p := rfl
@[simp] theorem setPair_crcCalc (q : Q32) (a : Word) (p : Bool) (s : State) : (setPair q a p s).crcCalc = s.crcCalc := rfl
@[simp] theorem setPair_crcRx (q : Q32) (a : Word) (p : Bool) (s : State) : (setPair q a p s).crcRx = s.crcRx := rfl
@[simp] theorem setPair_failCause (q : Q32) (a : Word) (p : Bool) (s : State) : (setPair q a p s).failCause = s.failCause := rfl
@[simp] theorem setPair_failPh (q : Q32) (a : Word) (p : Bool) (s : State) : (setPair q a p s).failPh = s.failPh := rfl
@[simp] theorem setPair_haltCause (q : Q32) (a : Word) (p : Bool) (s : State) : (setPair q a p s).haltCause = s.haltCause := rfl
@[simp] theorem setPair_cleanEof (q : Q32) (a : Word) (p : Bool) (s : State) : (setPair q a p s).cleanEof = s.cleanEof := rfl
@[simp] theorem setPair_inp (q : Q32) (a : Word) (p : Bool) (s : State) : (setPair q a p s).inp = s.inp := rfl
@[simp] theorem setPair_out (q : Q32) (a : Word) (p : Bool) (s : State) : (setPair q a p s).out = s.out := rfl

/-! ### `recordFailure` -/

@[simp] theorem recordFailure_cfg (i : FailInfo) (s : State) : (recordFailure i s).cfg = s.cfg := rfl
@[simp] theorem recordFailure_ph (i : FailInfo) (s : State) : (recordFailure i s).ph = s.ph := rfl
@[simp] theorem recordFailure_len (i : FailInfo) (s : State) : (recordFailure i s).len = 0 := rfl
@[simp] theorem recordFailure_need (i : FailInfo) (s : State) : (recordFailure i s).need = 0 := rfl
@[simp] theorem recordFailure_fb (i : FailInfo) (s : State) : (recordFailure i s).fb = [] := rfl
@[simp] theorem recordFailure_fn (i : FailInfo) (s : State) : (recordFailure i s).fn = s.fn := rfl
@[simp] theorem recordFailure_reqFn (i : FailInfo) (s : State) : (recordFailure i s).reqFn = s.reqFn := rfl
@[simp] theorem recordFailure_reqAddr (i : FailInfo) (s : State) : (recordFailure i s).reqAddr = s.reqAddr := rfl
@[simp] theorem recordFailure_skipped (i : FailInfo) (s : State) : (recordFailure i s).skipped = s.skipped := rfl
@[simp] theorem recordFailure_acc (i : FailInfo) (s : State) : (recordFailure i s).acc = s.acc := rfl
@[simp] theorem recordFailure_pend (i : FailInfo) (s : State) : (recordFailure i s).pend = s.pend := rfl
@[simp] theorem recordFailure_crcCalc (i : FailInfo) (s : State) : (recordFailure i s).crcCalc = s.crcCalc := rfl
@[simp] theorem recordFailure_crcRx (i : FailInfo) (s : State) : (recordFailure i s).crcRx = s.crcRx := rfl
@[simp] theorem recordFailure_failCause (i : FailInfo) (s : State) : (recordFailure i s).failCause = i.cause := rfl
@[simp] theorem recordFailure_failPh (i : FailInfo) (s : State) : (recordFailure i s).failPh = s.ph := rfl
@[simp] theorem recordFailure_haltCause (i : FailInfo) (s : State) : (recordFailure i s).haltCause = s.haltCause := rfl
@[simp] theorem recordFailure_cleanEof (i : FailInfo) (s : State) : (recordFailure i s).cleanEof = s.cleanEof := rfl
@[simp] theorem recordFailure_inp (i : FailInfo) (s : State) : (recordFailure i s).inp = s.inp := rfl
@[simp] theorem recordFailure_out (i : FailInfo) (s : State) : (recordFailure i s).out = s.out ++ [.fail i.cause i] := rfl

/-! ### `takeFailure`: what it keeps, whichever branch it takes (60_exceptions.md R251) -/

@[simp] theorem takeFailure_cfg (i : FailInfo) (s : State) : (takeFailure i s).cfg = s.cfg := by
  unfold takeFailure; split <;> rfl
@[simp] theorem takeFailure_len (i : FailInfo) (s : State) : (takeFailure i s).len = 0 := by
  unfold takeFailure; split <;> rfl
@[simp] theorem takeFailure_need (i : FailInfo) (s : State) : (takeFailure i s).need = 0 := by
  unfold takeFailure; split <;> rfl
@[simp] theorem takeFailure_fb (i : FailInfo) (s : State) : (takeFailure i s).fb = [] := by
  unfold takeFailure; split <;> rfl
@[simp] theorem takeFailure_fn (i : FailInfo) (s : State) : (takeFailure i s).fn = s.fn := by
  unfold takeFailure; split <;> rfl
@[simp] theorem takeFailure_reqFn (i : FailInfo) (s : State) : (takeFailure i s).reqFn = s.reqFn := by
  unfold takeFailure; split <;> rfl
@[simp] theorem takeFailure_reqAddr (i : FailInfo) (s : State) : (takeFailure i s).reqAddr = s.reqAddr := by
  unfold takeFailure; split <;> rfl
@[simp] theorem takeFailure_skipped (i : FailInfo) (s : State) : (takeFailure i s).skipped = s.skipped := by
  unfold takeFailure; split <;> rfl
@[simp] theorem takeFailure_acc (i : FailInfo) (s : State) : (takeFailure i s).acc = s.acc := by
  unfold takeFailure; split <;> rfl
@[simp] theorem takeFailure_pend (i : FailInfo) (s : State) : (takeFailure i s).pend = s.pend := by
  unfold takeFailure; split <;> rfl
@[simp] theorem takeFailure_crcCalc (i : FailInfo) (s : State) : (takeFailure i s).crcCalc = s.crcCalc := by
  unfold takeFailure; split <;> rfl
@[simp] theorem takeFailure_crcRx (i : FailInfo) (s : State) : (takeFailure i s).crcRx = s.crcRx := by
  unfold takeFailure; split <;> rfl
@[simp] theorem takeFailure_failCause (i : FailInfo) (s : State) : (takeFailure i s).failCause = i.cause := by
  unfold takeFailure; split <;> rfl
@[simp] theorem takeFailure_failPh (i : FailInfo) (s : State) : (takeFailure i s).failPh = s.ph := by
  unfold takeFailure; split <;> rfl
@[simp] theorem takeFailure_cleanEof (i : FailInfo) (s : State) : (takeFailure i s).cleanEof = s.cleanEof := by
  unfold takeFailure; split <;> rfl
@[simp] theorem takeFailure_inp (i : FailInfo) (s : State) : (takeFailure i s).inp = s.inp := by
  unfold takeFailure; split <;> rfl

/-! ### The accumulator file -/

@[simp] theorem perGet_perSet_same {α : Type} (p : PerQ32 α) (q : Q32) (x : α) : perGet (perSet p q x) q = x := by
  cases q <;> rfl

theorem perGet_perSet_other {α : Type} (p : PerQ32 α) (q r : Q32) (x : α) (h : r ≠ q) :
    perGet (perSet p q x) r = perGet p r := by
  cases q <;> cases r <;> first | rfl | exact absurd rfl h

theorem perQ32_ext {α : Type} {p p' : PerQ32 α} (h : ∀ q, perGet p q = perGet p' q) : p = p' := by
  have h1 := h .curGen
  have h2 := h .activeP
  have h3 := h .gridP
  have h4 := h .battP
  have h5 := h .meterTotalP
  cases p; cases p'; simp_all [perGet]

end Sys2Proof.Machine
end

