-- ==== Sys2Proof/Laws/Memory.lean ====
section
/-! SUPPORT. The frame buffer: a read after a write, and that every operation on it keeps its canonical form. -/

namespace Sys2Proof.Machine

@[simp] theorem readByte_nil (a : Nat) : readByte [] a = none := rfl

@[simp] theorem readByte_writeByte_same (m : Memory) (a : Nat) (v : Byte) :
    readByte (writeByte m a v) a = some v := by
  induction m with
  | nil => simp [writeByte, readByte]
  | cons c rest ih =>
    obtain ⟨k, b⟩ := c
    simp only [writeByte]
    split
    · simp [readByte]
    · split
      · simp [readByte]
      · have : ¬ k = a := by omega
        simp [readByte, this, ih]

theorem readByte_writeByte_other (m : Memory) (a a' : Nat) (v : Byte) (h : a' ≠ a) :
    readByte (writeByte m a v) a' = readByte m a' := by
  induction m with
  | nil => simp [writeByte, readByte, unlistedByte, h.symm]
  | cons c rest ih =>
    obtain ⟨k, b⟩ := c
    simp only [writeByte]
    split
    · simp [readByte, h.symm]
    · split
      · next hk => subst hk; simp [readByte, h.symm]
      · simp [readByte, ih]

/-- The canonical form, cell by cell. -/
theorem memory_wf_cons (a : Nat) (b : Byte) (m : Memory) :
    Memory.wf ((a, b) :: m) = true ↔
      (a < frameBufferSize ∧ (∀ c ∈ m, a < c.1)) ∧ Memory.wf m = true := by
  induction m generalizing a b with
  | nil => simp [Memory.wf]
  | cons c rest ih =>
    obtain ⟨k, x⟩ := c
    simp only [Memory.wf, Bool.and_eq_true, decide_eq_true_eq]
    constructor
    · rintro ⟨h1, h2⟩
      obtain ⟨⟨h3, h4⟩, h5⟩ := (ih k x).mp h2
      refine ⟨⟨by omega, ?_⟩, h2⟩
      intro c hc
      rcases List.mem_cons.mp hc with rfl | hc
      · exact h1
      · exact lt_trans h1 (h4 c hc)
    · rintro ⟨⟨_, h2⟩, h3⟩
      exact ⟨h2 (k, x) (by simp), h3⟩

theorem writeByte_mem (m : Memory) (a : Nat) (v : Byte) (c : Host.Cell) (h : c ∈ writeByte m a v) :
    c = (a, v) ∨ c ∈ m := by
  induction m with
  | nil => simpa [writeByte] using h
  | cons d rest ih =>
    obtain ⟨k, b⟩ := d
    simp only [writeByte] at h
    split at h
    · simpa using h
    · split at h
      · rcases List.mem_cons.mp h with h | h
        · exact .inl h
        · exact .inr (List.mem_cons_of_mem _ h)
      · rcases List.mem_cons.mp h with h | h
        · exact .inr (by simp [h])
        · rcases ih h with h | h
          · exact .inl h
          · exact .inr (List.mem_cons_of_mem _ h)

/-- A write keeps the canonical form. -/
theorem writeByte_wf (m : Memory) (a : Nat) (v : Byte) (hm : Memory.wf m = true) (ha : a < frameBufferSize) :
    Memory.wf (writeByte m a v) = true := by
  induction m with
  | nil => simpa [writeByte, Memory.wf] using ha
  | cons c rest ih =>
    obtain ⟨k, b⟩ := c
    obtain ⟨⟨h1, h2⟩, h3⟩ := (memory_wf_cons k b rest).mp hm
    simp only [writeByte]
    split
    · next hlt =>
      refine (memory_wf_cons a v _).mpr ⟨⟨ha, ?_⟩, hm⟩
      intro c hc
      rcases List.mem_cons.mp hc with rfl | hc
      · exact hlt
      · exact lt_trans hlt (h2 c hc)
    · split
      · next _ heq => subst heq; exact (memory_wf_cons a v rest).mpr ⟨⟨ha, h2⟩, h3⟩
      · next h4 h5 =>
        refine (memory_wf_cons k b _).mpr ⟨⟨h1, ?_⟩, ih h3⟩
        intro c hc
        rcases writeByte_mem _ _ _ _ hc with rfl | hc
        · show k < a; omega
        · exact h2 c hc

/-- Dropping the frame leaves the canonical form. -/
@[simp] theorem memory_wf_nil : Memory.wf [] = true := rfl

theorem mem_cellsFrom (a : Nat) (bytes : List Byte) (c : Host.Cell) (h : c ∈ cellsFrom a bytes) : a ≤ c.1 := by
  induction bytes generalizing a with
  | nil => simp [cellsFrom] at h
  | cons b rest ih =>
    rcases List.mem_cons.mp h with rfl | h
    · exact le_refl _
    · have := ih (a + 1) h; omega

/-- A byte sequence laid out from an index has the canonical form. -/
theorem cellsFrom_wf (a : Nat) (bytes : List Byte) (h : a + bytes.length ≤ frameBufferSize) :
    Memory.wf (cellsFrom a bytes) = true := by
  induction bytes generalizing a with
  | nil => rfl
  | cons b rest ih =>
    simp only [List.length_cons] at h
    refine (memory_wf_cons a b _).mpr ⟨⟨by omega, ?_⟩, ih (a + 1) (by omega)⟩
    intro c hc
    have := mem_cellsFrom _ _ _ hc
    omega

theorem readByte_cellsFrom (a : Nat) (bytes : List Byte) (i : Nat) :
    readByte (cellsFrom a bytes) (a + i) = bytes[i]? := by
  induction bytes generalizing a i with
  | nil => simp [cellsFrom]
  | cons b rest ih =>
    cases i with
    | zero => simp [cellsFrom, readByte]
    | succ i =>
      have h := ih (a + 1) i
      have e : a + 1 + i = a + (i + 1) := by omega
      rw [cellsFrom, readByte, if_neg (by omega), ← e, h, List.getElem?_cons_succ]

/-- Appending a byte at the end of a laid-out sequence. -/
theorem writeByte_cellsFrom (a : Nat) (bytes : List Byte) (b : Byte) :
    writeByte (cellsFrom a bytes) (a + bytes.length) b = cellsFrom a (bytes ++ [b]) := by
  induction bytes generalizing a with
  | nil => rfl
  | cons x rest ih =>
    have h := ih (a + 1)
    have e : a + 1 + rest.length = a + (x :: rest).length := by simp; omega
    simp only [cellsFrom, List.cons_append, writeByte]
    rw [if_neg (by simp), if_neg (by simp), ← e, h]

/-- The bytes from an index on, where each is known. -/
theorem readFrame_eq (m : Memory) (a : Nat) (bytes : List Byte)
    (h : ∀ i, i < bytes.length → readByte m (a + i) = bytes[i]?) :
    readFrame m a bytes.length = .next bytes := by
  induction bytes generalizing a with
  | nil => rfl
  | cons b rest ih =>
    have h0 := h 0 (by simp)
    have hr : readFrame m (a + 1) rest.length = .next rest := by
      refine ih (a + 1) (fun i hi => ?_)
      have := h (i + 1) (by simpa using hi)
      have e : a + 1 + i = a + (i + 1) := by omega
      simpa [e] using this
    simp only [Nat.add_zero, List.getElem?_cons_zero] at h0
    simp [readFrame, h0, hr, andThen]

@[simp] theorem readFrame_cellsFrom (bytes : List Byte) :
    readFrame (cellsFrom 0 bytes) 0 bytes.length = .next bytes :=
  readFrame_eq _ _ _ (fun i _ => by simpa using readByte_cellsFrom 0 bytes i)

/-- What `readFrame` reads, when it reads. -/
theorem readFrame_next {m : Memory} {a n : Nat} {bytes : List Byte} (h : readFrame m a n = .next bytes) :
    bytes.length = n ∧ ∀ i, i < n → readByte m (a + i) = bytes[i]? := by
  induction n generalizing a bytes with
  | zero => simp only [readFrame, Host.Outcome.next.injEq] at h; subst h; simp
  | succ n ih =>
    simp only [readFrame] at h
    split at h
    · cases h
    · next b hb =>
      cases hr : readFrame m (a + 1) n with
      | next rest =>
        simp only [hr, andThen, Host.Outcome.next.injEq] at h
        subst h
        obtain ⟨h1, h2⟩ := ih hr
        refine ⟨by simp [h1], fun i hi => ?_⟩
        cases i with
        | zero => simpa using hb
        | succ i =>
          have := h2 i (by omega)
          have e : a + 1 + i = a + (i + 1) := by omega
          simpa [e] using this
      | fault f => simp [hr, andThen] at h
      | refused e => simp [hr, andThen] at h

/-- `readFrame` answers exactly when every index holds a byte. -/
theorem readFrame_of_held (m : Memory) (a n : Nat) (h : ∀ i, i < n → (readByte m (a + i)).isSome = true) :
    ∃ bytes, readFrame m a n = .next bytes := by
  induction n generalizing a with
  | zero => exact ⟨[], rfl⟩
  | succ n ih =>
    obtain ⟨b, hb⟩ := Option.isSome_iff_exists.mp (by simpa using h 0 (by omega))
    obtain ⟨rest, hr⟩ := ih (a + 1) (fun i hi => by
      have := h (i + 1) (by omega)
      have e : a + 1 + i = a + (i + 1) := by omega
      simpa [e] using this)
    exact ⟨b :: rest, by simp [readFrame, hb, hr, andThen]⟩

/-- `putByte`, whole. -/
theorem putByte_cases {i : Nat} {b : Byte} {s t : State} (h : putByte i b s = .next t) :
    i < frameBufferSize ∧ t = { s with fb := writeByte s.fb i b, len := i + 1 } := by
  unfold putByte at h
  split at h
  · next hi => exact ⟨hi, by simpa using h.symm⟩
  · cases h

/-- `putByte` keeps the canonical form. -/
theorem putByte_wf {i : Nat} {b : Byte} {s t : State} (h : putByte i b s = .next t) (hm : Memory.wf s.fb = true) :
    Memory.wf t.fb = true := by
  obtain ⟨hi, rfl⟩ := putByte_cases h
  exact writeByte_wf _ _ _ hm hi

/-- The frame buffer after reset has the canonical form. -/
theorem reset_fb_wf : Memory.wf State.reset.fb = true := rfl

/-- Staging a frame leaves the canonical form. -/
theorem stageFrame_wf (ph : Phase) (need : Nat) (frame : List Byte) (s : State)
    (h : frame.length ≤ frameBufferSize + 1) : Memory.wf (stageFrame ph need frame s).fb = true :=
  cellsFrom_wf 0 _ (by simp only [List.length_dropLast]; omega)

end Sys2Proof.Machine
end

