-- ==== Sys2Proof/Laws/Ops.lean ====
section
/-! SUPPORT. What each shared operation can do, said once. -/

namespace Sys2Proof.Machine

/-- `andThen` answers a next value exactly when both parts do. -/
theorem andThen_next {α β : Type} {r : Result α} {k : α → Result β} {b : β} :
    andThen r k = .next b ↔ ∃ a, r = .next a ∧ k a = .next b := by
  cases r <;> simp [andThen]

@[simp] theorem andThen_of_next {α β : Type} (a : α) (k : α → Result β) : andThen (.next a) k = k a := rfl

/-! ### Failure entry (60_exceptions.md R250) -/

/-- Failure entry takes one of two branches. -/
theorem takeFailure_cases (i : FailInfo) (s : State) :
    (s.cfg.isLive = true ∧ i.cause.recoverable = true
        ∧ takeFailure i s = emit .quietArm { recordFailure i s with ph := .resync })
      ∨ ((s.cfg.isLive = false ∨ i.cause.recoverable = false)
        ∧ takeFailure i s
          = emit (.halt i.cause) { recordFailure i s with haltCause := i.cause, ph := .halted }) := by
  unfold takeFailure
  by_cases h : (s.cfg.isLive && i.cause.recoverable) = true
  · simp only [Bool.and_eq_true] at h
    exact .inl ⟨h.1, h.2, by simp [h.1, h.2]⟩
  · refine .inr ⟨?_, by rw [if_neg h]⟩
    cases hl : s.cfg.isLive <;> cases hr : i.cause.recoverable <;> simp_all

/-- What failure entry emits: the report, then the arming of the timer or the halt. -/
theorem takeFailure_out (i : FailInfo) (s : State) :
    ∃ e, (takeFailure i s).out = s.out ++ [.fail i.cause i, e] ∧ (e = .quietArm ∨ e = .halt i.cause) := by
  rcases takeFailure_cases i s with ⟨_, _, h⟩ | ⟨_, h⟩ <;> rw [h]
  · exact ⟨.quietArm, by simp, .inl rfl⟩
  · exact ⟨.halt i.cause, by simp, .inr rfl⟩

/-- Where failure entry goes. -/
theorem takeFailure_ph (i : FailInfo) (s : State) :
    (takeFailure i s).ph = .resync ∨ (takeFailure i s).ph = .halted := by
  rcases takeFailure_cases i s with ⟨_, _, h⟩ | ⟨_, h⟩ <;> rw [h] <;> simp

/-! ### The register decoder (44_register_decoder.md R184) -/

/-- A sample changes nothing but the accumulator file and the output, to which it adds at most one event of the decoder. -/
theorem runEntry_cases (e : Entry) (v : Half) (s : State) :
    ∃ acc pend more, runEntry e v s = { s with acc := acc, pend := pend, out := s.out ++ more }
      ∧ more.length ≤ 1 ∧ ∀ o ∈ more, fromDecoder o = true := by
  cases e with
  | single q sg e u => exact ⟨s.acc, s.pend, [_], rfl, by simp, by simp [fromDecoder]⟩
  | high q =>
    exact ⟨perSet s.acc q (highWord v), perSet s.pend q true, [], by simp [runEntry, setPair], by simp, by simp⟩
  | low q sg e u =>
    by_cases h : perGet s.pend q = true
    · exact ⟨perSet s.acc q 0, perSet s.pend q false,
        [.meas q.toQuantity (val32 sg (joinWords (perGet s.acc q) v)) e u],
        by simp [runEntry, h, setPair, emit], by simp, by simp [fromDecoder]⟩
    · exact ⟨s.acc, s.pend, [.lowWithoutHigh q], by simp [runEntry, h, emit], by simp, by simp [fromDecoder]⟩

/-- `decodeRegister` runs an entry or does nothing. -/
theorem decodeRegister_cases (a v : Half) (s : State) :
    decodeRegister a v s = s ∨ ∃ e, decodeRegister a v s = runEntry e v s := by
  unfold decodeRegister
  split
  · exact .inr ⟨_, rfl⟩
  · exact .inr ⟨_, rfl⟩
  · exact .inr ⟨_, rfl⟩
  · exact .inr ⟨_, rfl⟩
  · exact .inr ⟨_, rfl⟩
  · exact .inr ⟨_, rfl⟩
  · exact .inl rfl
  · exact .inr ⟨_, rfl⟩
  · exact .inr ⟨_, rfl⟩
  · exact .inr ⟨_, rfl⟩

@[simp] theorem decodeAll_nil (s : State) : decodeAll [] s = s := rfl

@[simp] theorem decodeAll_cons (p : Half × Half) (rest : List (Half × Half)) (s : State) :
    decodeAll (p :: rest) s = decodeAll rest (decodeRegister p.1 p.2 s) := rfl

theorem decodeAll_append (xs ys : List (Half × Half)) (s : State) :
    decodeAll (xs ++ ys) s = decodeAll ys (decodeAll xs s) := by
  induction xs generalizing s with
  | nil => rfl
  | cons p rest ih => simpa using ih (decodeRegister p.1 p.2 s)

/-! ### The frame in progress (10_state.md R27) -/

/-- A buffer that holds a byte sequence from index 0 on holds exactly its bytes. -/
theorem bufferHeld_cellsFrom {s : State} {bytes : List Byte} (hf : s.fb = cellsFrom 0 bytes) (hl : s.len = bytes.length)
    (h : bytes.length ≤ frameBufferSize) : BufferHeld s := by
  refine ⟨hf ▸ cellsFrom_wf 0 bytes (by omega), fun a => ?_⟩
  have e := readByte_cellsFrom 0 bytes a
  rw [Nat.zero_add] at e
  rw [hf, hl, e]
  simp

/-- Storing the next byte keeps the buffer held. -/
theorem bufferHeld_putByte {s t : State} {b : Byte} (hb : BufferHeld s) (h : putByte s.len b s = .next t) : BufferHeld t := by
  obtain ⟨hi, rfl⟩ := putByte_cases h
  refine ⟨writeByte_wf _ _ _ hb.1 hi, fun a => ?_⟩
  by_cases e : a = s.len
  · subst e; simp
  · have h2 := hb.2 a
    simp only [readByte_writeByte_other _ _ _ _ e, h2]
    omega

/-- A held buffer can be read whole. -/
theorem readFrame_held {s : State} (h : BufferHeld s) :
    ∃ bytes, readFrame s.fb 0 s.len = .next bytes ∧ bytes.length = s.len
      ∧ ∀ i, i < s.len → readByte s.fb i = bytes[i]? := by
  obtain ⟨bytes, hb⟩ := readFrame_of_held s.fb 0 s.len (fun i hi => by simpa using (h.2 i).mpr hi)
  obtain ⟨h1, h2⟩ := readFrame_next hb
  exact ⟨bytes, hb, h1, fun i hi => by simpa using h2 i hi⟩

/-- What storing a byte and counting down can do. -/
theorem storeByte_cases {b : Byte} {s t : State} (h : storeByte b s = .next t) :
    s.len < frameBufferSize
      ∧ t = { s with fb := writeByte s.fb s.len b, len := s.len + 1, need := s.need - 1 } := by
  obtain ⟨u, h1, h2⟩ := andThen_next.mp h
  obtain ⟨hi, rfl⟩ := putByte_cases h1
  exact ⟨hi, by simpa using h2.symm⟩

/-- The end of a frame, when it is an instruction: the bytes of the buffer decode to it and to nothing more. -/
theorem endFrame_cases {d : Dir} {s : State} {r : Fetched} (h : endFrame d s = .next r) :
    ∃ i bytes, r = .complete i s ∧ readFrame s.fb 0 s.len = .next bytes
      ∧ decode s.cfg (.frame d bytes) = .ok (i, []) := by
  obtain ⟨bytes, h1, h2⟩ := andThen_next.mp h
  unfold decodeWhole at h2
  split at h2
  · next i hd => exact ⟨i, bytes, by simpa using h2.symm, h1, hd⟩
  · cases h2
  · cases h2

/-! ### Completing a frame -/

/-- A valid request (42_request_parser.md R144). -/
theorem completeRequest_valid {fn : Byte} {addr : Half} {bc : Option Byte} {body : List Byte} {crc : Half} {s : State}
    (h : crc16 (s.cfg.expectedSlave :: fn :: body) = crc) :
    completeRequest fn addr bc body crc s =
      startSearch .rspSyncId
        { emit (.reqFrame fn addr bc true crc crc) (noteCrc crc crc s) with reqFn := fn, reqAddr := addr } := by
  subst h
  simp [completeRequest, crcValid]

/-- An invalid request (42_request_parser.md R145). -/
theorem completeRequest_invalid {fn : Byte} {addr : Half} {bc : Option Byte} {body : List Byte} {crc : Half} {s : State}
    (h : crc16 (s.cfg.expectedSlave :: fn :: body) ≠ crc) :
    completeRequest fn addr bc body crc s =
      takeFailure (.checksumMismatch (crc16 (s.cfg.expectedSlave :: fn :: body)) crc)
        (emit (.reqFrame fn addr bc false (crc16 (s.cfg.expectedSlave :: fn :: body)) crc)
          (noteCrc (crc16 (s.cfg.expectedSlave :: fn :: body)) crc s)) := by
  simp [completeRequest, crcValid, h]

/-- A valid normal response (43_response_parser.md R168). -/
theorem completeNormal_valid {fn : Byte} {payload : List Byte} {crc : Half} {s : State}
    (h : crc16 (s.cfg.expectedSlave :: fn :: normalBody payload) = crc) :
    completeNormal fn payload crc s =
      startSearch .reqSyncId (decodeAll (samples s.reqAddr payload)
        (emit (.rspFrame fn (BitVec.ofNat 8 payload.length) true crc crc (fnMatch fn s.reqFn)) (noteCrc crc crc s))) := by
  subst h
  simp [completeNormal, crcValid]

/-- An invalid normal response (43_response_parser.md R169). -/
theorem completeNormal_invalid {fn : Byte} {payload : List Byte} {crc : Half} {s : State}
    (h : crc16 (s.cfg.expectedSlave :: fn :: normalBody payload) ≠ crc) :
    completeNormal fn payload crc s =
      takeFailure (.checksumMismatch (crc16 (s.cfg.expectedSlave :: fn :: normalBody payload)) crc)
        (emit (.rspFrame fn (BitVec.ofNat 8 payload.length) false (crc16 (s.cfg.expectedSlave :: fn :: normalBody payload)) crc
            (fnMatch fn s.reqFn))
          (noteCrc (crc16 (s.cfg.expectedSlave :: fn :: normalBody payload)) crc s)) := by
  simp [completeNormal, crcValid, h]

/-- A valid exception response (43_response_parser.md R171 a). -/
theorem completeException_valid {fn err : Byte} {crc : Half} {s : State} (h : crc16 [s.cfg.expectedSlave, fn, err] = crc) :
    completeException fn err crc s =
      startSearch .reqSyncId (emit (.excFrame fn err true crc crc (fnMatch fn s.reqFn)) (noteCrc crc crc s)) := by
  subst h
  simp [completeException, crcValid]

/-- An invalid exception response (43_response_parser.md R171 b). -/
theorem completeException_invalid {fn err : Byte} {crc : Half} {s : State}
    (h : crc16 [s.cfg.expectedSlave, fn, err] ≠ crc) :
    completeException fn err crc s =
      takeFailure (.checksumMismatch (crc16 [s.cfg.expectedSlave, fn, err]) crc)
        (emit (.excFrame fn err false (crc16 [s.cfg.expectedSlave, fn, err]) crc (fnMatch fn s.reqFn))
          (noteCrc (crc16 [s.cfg.expectedSlave, fn, err]) crc s)) := by
  simp [completeException, crcValid, h]

/-! ### One event (45_transaction_sequencer.md R215) -/

/-- A step with an event takes it. -/
theorem stepBlock_event {s : State} {ev : InEvent} {rest : List InEvent} (hw : s.cfg.wf = true) (hi : s.inp = ev :: rest) :
    stepBlock s = takeEvent ev { s with inp := rest, out := [] } := by
  simp [stepBlock, hw, hi]

/-- A byte outside `HALTED` is fetched, and the instruction it ends is executed. -/
theorem takeEvent_byte {s : State} {b : Byte} (h : s.ph ≠ .halted) :
    takeEvent (.byte b) s = andThen (fetchByte b s) runFetched := by
  simp [takeEvent, h]

end Sys2Proof.Machine
end

