-- ==== Sys2Proof/Laws/PerInstr.lean ====
section
/-! SUPPORT. The family `EncodedLength`: every frame kind has the length that spec/opcode_table.json gives its row. -/

namespace Sys2Proof.Laws.EncodedLength

/-- The `length_bytes` of a frame row of the opcode table; `none` for the rows of the register look-up table. -/
def tableLength : Instr → Option Nat
  | .reqF01 _ _ _ _ => some 8
  | .reqF02 _ _ _ _ => some 8
  | .reqF03 _ _ _ _ => some 8
  | .reqF04 _ _ _ _ => some 8
  | .reqF05 _ _ _ _ => some 8
  | .reqF06 _ _ _ _ => some 8
  | .reqF15 _ _ data _ => some (9 + data.length)
  | .reqF16 _ _ data _ => some (9 + data.length)
  | .reqRsid => some 2
  | .reqExcF01 => some 2
  | .reqExcF02 => some 2
  | .reqExcF03 => some 2
  | .reqExcF04 => some 2
  | .reqExcF05 => some 2
  | .reqExcF06 => some 2
  | .reqExcF15 => some 2
  | .reqExcF16 => some 2
  | .reqExcF17 => some 2
  | .rspF01 payload _ => some (5 + payload.length)
  | .rspF02 payload _ => some (5 + payload.length)
  | .rspF03 payload _ => some (5 + payload.length)
  | .rspF04 payload _ => some (5 + payload.length)
  | .rspF05 payload _ => some (5 + payload.length)
  | .rspF06 payload _ => some (5 + payload.length)
  | .rspF15 payload _ => some (5 + payload.length)
  | .rspF16 payload _ => some (5 + payload.length)
  | .rspF17 payload _ => some (5 + payload.length)
  | .rspxF01 _ _ => some 5
  | .rspxF02 _ _ => some 5
  | .rspxF03 _ _ => some 5
  | .rspxF04 _ _ => some 5
  | .rspxF05 _ _ => some 5
  | .rspxF06 _ _ => some 5
  | .rspxF15 _ _ => some 5
  | .rspxF16 _ _ => some 5
  | .rspxF17 _ _ => some 5
  | .noiseReq _ => some 2
  | .noiseRsp _ => some 2
  | .energyToday _ => none
  | .curGenHi _ => none
  | .curGenLo _ => none
  | .battSoc _ => none
  | .meterHi _ => none
  | .meterLo _ => none
  | .unmapped _ _ => none
  | .openSingle _ _ _ _ _ _ => none
  | .openHigh _ _ _ => none
  | .openLow _ _ _ _ _ _ => none

/-- The number of bytes of a code that is a frame. -/
def codeLength : Code → Option Nat
  | .frame _ bytes => some bytes.length
  | .sample _ _ => none

/-- The encoder writes as many bytes as the table says. -/
def Statement (i : Instr) : Prop := ∀ cfg : Config, codeLength (encode cfg i) = tableLength i

theorem reqF01 (a : Half) (p2 p3 : Byte) (crc : Half) : Statement (.reqF01 a p2 p3 crc) := fun _ => rfl
theorem reqF02 (a : Half) (p2 p3 : Byte) (crc : Half) : Statement (.reqF02 a p2 p3 crc) := fun _ => rfl
theorem reqF03 (a : Half) (p2 p3 : Byte) (crc : Half) : Statement (.reqF03 a p2 p3 crc) := fun _ => rfl
theorem reqF04 (a : Half) (p2 p3 : Byte) (crc : Half) : Statement (.reqF04 a p2 p3 crc) := fun _ => rfl
theorem reqF05 (a : Half) (p2 p3 : Byte) (crc : Half) : Statement (.reqF05 a p2 p3 crc) := fun _ => rfl
theorem reqF06 (a : Half) (p2 p3 : Byte) (crc : Half) : Statement (.reqF06 a p2 p3 crc) := fun _ => rfl
theorem reqF15 (a q : Half) (data : List Byte) (crc : Half) : Statement (.reqF15 a q data crc) := fun _ => by
  simp only [encode, codeLength, tableLength, frameOf, varBody, List.length_cons, List.length_append, List.length_nil]
  congr 1; omega
theorem reqF16 (a q : Half) (data : List Byte) (crc : Half) : Statement (.reqF16 a q data crc) := fun _ => by
  simp only [encode, codeLength, tableLength, frameOf, varBody, List.length_cons, List.length_append, List.length_nil]
  congr 1; omega
theorem reqRsid : Statement (.reqRsid) := fun _ => rfl
theorem reqExcF01 : Statement (.reqExcF01) := fun _ => rfl
theorem reqExcF02 : Statement (.reqExcF02) := fun _ => rfl
theorem reqExcF03 : Statement (.reqExcF03) := fun _ => rfl
theorem reqExcF04 : Statement (.reqExcF04) := fun _ => rfl
theorem reqExcF05 : Statement (.reqExcF05) := fun _ => rfl
theorem reqExcF06 : Statement (.reqExcF06) := fun _ => rfl
theorem reqExcF15 : Statement (.reqExcF15) := fun _ => rfl
theorem reqExcF16 : Statement (.reqExcF16) := fun _ => rfl
theorem reqExcF17 : Statement (.reqExcF17) := fun _ => rfl
theorem rspF01 (payload : List Byte) (crc : Half) : Statement (.rspF01 payload crc) := fun _ => by
  simp only [encode, codeLength, tableLength, frameOf, normalBody, List.length_cons, List.length_append, List.length_nil]
  congr 1; omega
theorem rspF02 (payload : List Byte) (crc : Half) : Statement (.rspF02 payload crc) := fun _ => by
  simp only [encode, codeLength, tableLength, frameOf, normalBody, List.length_cons, List.length_append, List.length_nil]
  congr 1; omega
theorem rspF03 (payload : List Byte) (crc : Half) : Statement (.rspF03 payload crc) := fun _ => by
  simp only [encode, codeLength, tableLength, frameOf, normalBody, List.length_cons, List.length_append, List.length_nil]
  congr 1; omega
theorem rspF04 (payload : List Byte) (crc : Half) : Statement (.rspF04 payload crc) := fun _ => by
  simp only [encode, codeLength, tableLength, frameOf, normalBody, List.length_cons, List.length_append, List.length_nil]
  congr 1; omega
theorem rspF05 (payload : List Byte) (crc : Half) : Statement (.rspF05 payload crc) := fun _ => by
  simp only [encode, codeLength, tableLength, frameOf, normalBody, List.length_cons, List.length_append, List.length_nil]
  congr 1; omega
theorem rspF06 (payload : List Byte) (crc : Half) : Statement (.rspF06 payload crc) := fun _ => by
  simp only [encode, codeLength, tableLength, frameOf, normalBody, List.length_cons, List.length_append, List.length_nil]
  congr 1; omega
theorem rspF15 (payload : List Byte) (crc : Half) : Statement (.rspF15 payload crc) := fun _ => by
  simp only [encode, codeLength, tableLength, frameOf, normalBody, List.length_cons, List.length_append, List.length_nil]
  congr 1; omega
theorem rspF16 (payload : List Byte) (crc : Half) : Statement (.rspF16 payload crc) := fun _ => by
  simp only [encode, codeLength, tableLength, frameOf, normalBody, List.length_cons, List.length_append, List.length_nil]
  congr 1; omega
theorem rspF17 (payload : List Byte) (crc : Half) : Statement (.rspF17 payload crc) := fun _ => by
  simp only [encode, codeLength, tableLength, frameOf, normalBody, List.length_cons, List.length_append, List.length_nil]
  congr 1; omega
theorem rspxF01 (err : Byte) (crc : Half) : Statement (.rspxF01 err crc) := fun _ => rfl
theorem rspxF02 (err : Byte) (crc : Half) : Statement (.rspxF02 err crc) := fun _ => rfl
theorem rspxF03 (err : Byte) (crc : Half) : Statement (.rspxF03 err crc) := fun _ => rfl
theorem rspxF04 (err : Byte) (crc : Half) : Statement (.rspxF04 err crc) := fun _ => rfl
theorem rspxF05 (err : Byte) (crc : Half) : Statement (.rspxF05 err crc) := fun _ => rfl
theorem rspxF06 (err : Byte) (crc : Half) : Statement (.rspxF06 err crc) := fun _ => rfl
theorem rspxF15 (err : Byte) (crc : Half) : Statement (.rspxF15 err crc) := fun _ => rfl
theorem rspxF16 (err : Byte) (crc : Half) : Statement (.rspxF16 err crc) := fun _ => rfl
theorem rspxF17 (err : Byte) (crc : Half) : Statement (.rspxF17 err crc) := fun _ => rfl
theorem noiseReq (f : Byte) : Statement (.noiseReq f) := fun _ => rfl
theorem noiseRsp (f : Byte) : Statement (.noiseRsp f) := fun _ => rfl
theorem energyToday (v : Half) : Statement (.energyToday v) := fun _ => rfl
theorem curGenHi (v : Half) : Statement (.curGenHi v) := fun _ => rfl
theorem curGenLo (v : Half) : Statement (.curGenLo v) := fun _ => rfl
theorem battSoc (v : Half) : Statement (.battSoc v) := fun _ => rfl
theorem meterHi (v : Half) : Statement (.meterHi v) := fun _ => rfl
theorem meterLo (v : Half) : Statement (.meterLo v) := fun _ => rfl
theorem unmapped (a v : Half) : Statement (.unmapped a v) := fun _ => rfl
theorem openSingle (a : Half) (q : Quantity) (sg : Bool) (e : Int) (u : MeasUnit) (v : Half) :
    Statement (.openSingle a q sg e u v) := fun _ => rfl
theorem openHigh (a : Half) (q : Q32) (v : Half) : Statement (.openHigh a q v) := fun _ => rfl
theorem openLow (a : Half) (q : Q32) (sg : Bool) (e : Int) (u : MeasUnit) (v : Half) :
    Statement (.openLow a q sg e u v) := fun _ => rfl

end Sys2Proof.Laws.EncodedLength
end

