-- ==== Sys2Proof/Tests/Slice0.lean ====
section
/-! SUPPORT. Tests of single steps and definitions, whose expected results are the spec's worked examples (each says which), and one
witness for every statement that has hypotheses: a concrete state and operands that meet all of them together. -/

namespace Sys2Proof.Tests

-- One theorem at a time: the kernel evaluations need no more memory than one of them does.
set_option Elab.async false

open Sys2Proof Sys2Proof.Machine

/-! ### Helpers -/

/-- The outcome is a next state of which a test holds. -/
def nextIs (o : Result State) (p : State → Bool) : Bool :=
  match o with
  | .next t => p t
  | .fault _ => false
  | .refused _ => false

theorem nextIs_exists {o : Result State} {p : State → Bool} (h : nextIs o p = true) : ∃ t, o = .next t ∧ p t = true := by
  cases o with
  | next t => exact ⟨t, rfl, h⟩
  | fault f => cases h
  | refused e => cases h

/-- A block in a phase that has collected some bytes, with events to arrive. -/
def collected (ph : Phase) (bytes : List Byte) (need : Nat) (inp : List InEvent) : State :=
  { State.reset with
    ph := ph
    len := bytes.length
    need := need
    fb := cellsFrom 0 bytes
    fn := bytes.getD 1 0
    inp := inp }

/-- A block that lacks the last byte of a frame, which is the next event. -/
def lacking (ph : Phase) (frame : List Byte) : State :=
  collected ph frame.dropLast (if frame.length = 2 then 0 else 1) [.byte (frame.getLastD 0)]

/-- The same after a valid function 4 request for register 33057, the request of R111. -/
def answering (ph : Phase) (frame : List Byte) : State := { lacking ph frame with reqFn := 0x04, reqAddr := 33057 }

/-- A block on a live link. -/
def live (s : State) : State := { s with cfg := { s.cfg with isLive := true } }

/-- A block with both pending words of R196 and R193. -/
def pendingBoth : State :=
  { State.reset with
    acc := { State.reset.acc with curGen := 0, meterTotalP := 0xFFFF0000 }
    pend := { State.reset.pend with curGen := true, meterTotalP := true } }

/-- The default configuration with entries for grid power at 33151 and 33152 and for the load at 36864, as R191 allows. -/
def withGridPower : Config :=
  { Config.default with
    regMap := [(0x810B, .single .energyToday false (-1) .kilowattHour), (0x8121, .high .curGen),
      (0x8122, .low .curGen false 0 .watt), (0x8173, .single .battSoc false 0 .percent), (0x817F, .high .gridP),
      (0x8180, .low .gridP true 0 .watt), (0x81EF, .high .meterTotalP), (0x81F0, .low .meterTotalP true (-3) .kilowatt),
      (0x9000, .single .loadP true (-1) .kilowatt)] }

/-! ### Well-formed configurations and instructions: each check refuses an ill-formed term -/

theorem test_default_config_wf : Config.default.wf = true := by decide +kernel
theorem test_grid_power_config_wf : withGridPower.wf = true := by decide +kernel
theorem test_wf_refuses_repeated_address :
    addressesRise [(0x8121, .high .curGen), (0x8121, .high .battP)] = false := by decide
theorem test_wf_refuses_missing_minimum : containsMin (regMapMin.drop 1) = false := by decide
theorem test_wf_refuses_altered_minimum :
    containsMin ((0x810B, .single .energyToday true (-1) .kilowattHour) :: regMapMin) = false := by decide
theorem test_wf_refuses_single_pair_quantity : entryOk (.single .activeP true 0 .watt) = false := by decide
theorem test_wf_refuses_scale : entryOk (.single .loadP false 1 .watt) = false ∧ entryOk (.low .gridP true (-4) .watt) = false := by
  decide
theorem test_wf_refuses_lone_high_word : pairOk [(0x9000, .high .gridP)] .gridP = false := by decide
theorem test_wf_refuses_split_pair :
    pairOk [(0x9000, .high .gridP), (0x9002, .low .gridP true 0 .watt)] .gridP = false := by decide
theorem test_wf_refuses_high_word_at_top :
    pairOk [(0x0000, .low .gridP true 0 .watt), (0xFFFF, .high .gridP)] .gridP = false := by decide
theorem test_wf_refuses_two_singles :
    singleOk [(0x9000, .single .loadP true 0 .watt), (0x9001, .single .loadP true 0 .watt)] .loadP = false := by decide
theorem test_wf_refuses_eight_bit_rsid : fcRsidOk 0x91 = false := by decide
theorem test_wf_refuses_known_rsid : fcRsidOk 0x10 = false := by decide
theorem test_wf_refuses_256_data_bytes : (Instr.reqF16 0 0 (List.replicate 256 0) 0).wf Config.default = false := by
  decide +kernel
theorem test_wf_refuses_256_payload_bytes : (Instr.rspF04 (List.replicate 256 0) 0).wf Config.default = false := by
  decide +kernel
theorem test_wf_refuses_accepted_noise :
    (Instr.noiseReq 0x84).wf Config.default = false ∧ (Instr.noiseRsp 0x11).wf Config.default = false := by decide
theorem test_wf_refuses_mapped_unmapped : (Instr.unmapped 33057 0).wf Config.default = false := by decide
theorem test_wf_refuses_open_rows_without_entry :
    (Instr.openSingle 0x9000 .loadP true 0 .watt 0).wf withGridPower = false
      ∧ (Instr.openHigh 0x8180 .gridP 0).wf withGridPower = false
      ∧ (Instr.openLow 0x8180 .gridP false 0 .watt 0).wf withGridPower = false
      ∧ (Instr.openHigh 0x8121 .curGen 0).wf withGridPower = false := by decide
theorem test_memory_wf_refuses_disorder : Memory.wf [(1, 0), (0, 0)] = false ∧ Memory.wf [(0, 0), (0, 1)] = false := by decide
theorem test_memory_wf_refuses_index_264 : Memory.wf [(263, 0)] = true ∧ Memory.wf [(264, 0)] = false := by decide

/-! ### Decoding: every row, from the bytes that the spec writes out -/

/-- R131 to R136. -/
theorem test_decode_req_fixed :
    decode Config.default (.frame .req [0x01, 0x01, 0x00, 0x00, 0x00, 0x08, 0x3D, 0xCC]) = .ok (.reqF01 0 0x00 0x08 0xCC3D, [])
      ∧ decode Config.default (.frame .req [0x01, 0x02, 0x00, 0x10, 0x00, 0x05, 0xB9, 0xCC]) = .ok (.reqF02 16 0x00 0x05 0xCCB9, [])
      ∧ decode Config.default (.frame .req [0x01, 0x03, 0xA7, 0xF8, 0x00, 0x01, 0x26, 0x8F]) = .ok (.reqF03 43000 0x00 0x01 0x8F26, [])
      ∧ decode Config.default (.frame .req [0x01, 0x04, 0x81, 0x21, 0x00, 0x02, 0x09, 0xFD]) = .ok (.reqF04 33057 0x00 0x02 0xFD09, [])
      ∧ decode Config.default (.frame .req [0x01, 0x05, 0x00, 0x13, 0xFF, 0x00, 0x7D, 0xFF]) = .ok (.reqF05 19 0xFF 0x00 0xFF7D, [])
      ∧ decode Config.default (.frame .req [0x01, 0x06, 0xA8, 0x66, 0x00, 0x23, 0x08, 0x6C]) = .ok (.reqF06 43110 0x00 0x23 0x6C08, []) := by
  decide

/-- R137 and R138, with byte count 0 too. -/
theorem test_decode_req_var :
    decode Config.default (.frame .req [0x01, 0x0F, 0x00, 0x13, 0x00, 0x0A, 0x02, 0xCD, 0x01, 0x72, 0xCB]) = .ok (.reqF15 19 10 [0xCD, 0x01] 0xCB72, [])
      ∧ decode Config.default (.frame .req [0x01, 0x10, 0xA7, 0xF8, 0x00, 0x02, 0x04, 0x00, 0x0A, 0x01, 0x02, 0x83, 0x29]) = .ok (.reqF16 43000 2 [0x00, 0x0A, 0x01, 0x02] 0x2983, [])
      ∧ decode Config.default (.frame .req [0x01, 0x10, 0x12, 0x34, 0x00, 0x00, 0x00, 0xBF, 0x63]) = .ok (.reqF16 0x1234 0 [] 0x63BF, []) := by
  decide

/-- R139 and R140. -/
theorem test_decode_req_without_layout :
    decode Config.default (.frame .req [0x01, 0x11]) = .ok (.reqRsid, [])
      ∧ decode Config.default (.frame .req [0x01, 0x81]) = .ok (.reqExcF01, [])
      ∧ decode Config.default (.frame .req [0x01, 0x82]) = .ok (.reqExcF02, [])
      ∧ decode Config.default (.frame .req [0x01, 0x83]) = .ok (.reqExcF03, [])
      ∧ decode Config.default (.frame .req [0x01, 0x84]) = .ok (.reqExcF04, [])
      ∧ decode Config.default (.frame .req [0x01, 0x85]) = .ok (.reqExcF05, [])
      ∧ decode Config.default (.frame .req [0x01, 0x86]) = .ok (.reqExcF06, [])
      ∧ decode Config.default (.frame .req [0x01, 0x8F]) = .ok (.reqExcF15, [])
      ∧ decode Config.default (.frame .req [0x01, 0x90]) = .ok (.reqExcF16, [])
      ∧ decode Config.default (.frame .req [0x01, 0x91]) = .ok (.reqExcF17, []) := by
  decide

/-- R172: one word, 0x1234. -/
theorem test_decode_rsp_normal :
    decode Config.default (.frame .rsp [0x01, 0x01, 0x02, 0x12, 0x34, 0xB4, 0x8B]) = .ok (.rspF01 [0x12, 0x34] 0x8BB4, [])
      ∧ decode Config.default (.frame .rsp [0x01, 0x02, 0x02, 0x12, 0x34, 0xB4, 0xCF]) = .ok (.rspF02 [0x12, 0x34] 0xCFB4, [])
      ∧ decode Config.default (.frame .rsp [0x01, 0x03, 0x02, 0x12, 0x34, 0xB5, 0x33]) = .ok (.rspF03 [0x12, 0x34] 0x33B5, [])
      ∧ decode Config.default (.frame .rsp [0x01, 0x04, 0x02, 0x12, 0x34, 0xB4, 0x47]) = .ok (.rspF04 [0x12, 0x34] 0x47B4, [])
      ∧ decode Config.default (.frame .rsp [0x01, 0x05, 0x02, 0x12, 0x34, 0xB5, 0xBB]) = .ok (.rspF05 [0x12, 0x34] 0xBBB5, [])
      ∧ decode Config.default (.frame .rsp [0x01, 0x06, 0x02, 0x12, 0x34, 0xB5, 0xFF]) = .ok (.rspF06 [0x12, 0x34] 0xFFB5, [])
      ∧ decode Config.default (.frame .rsp [0x01, 0x0F, 0x02, 0x12, 0x34, 0xB6, 0x63]) = .ok (.rspF15 [0x12, 0x34] 0x63B6, [])
      ∧ decode Config.default (.frame .rsp [0x01, 0x10, 0x02, 0x12, 0x34, 0xB1, 0xB7]) = .ok (.rspF16 [0x12, 0x34] 0xB7B1, [])
      ∧ decode Config.default (.frame .rsp [0x01, 0x11, 0x02, 0x12, 0x34, 0xB0, 0x4B]) = .ok (.rspF17 [0x12, 0x34] 0x4BB0, []) := by
  decide

/-- R173: error code 1. -/
theorem test_decode_rsp_exception :
    decode Config.default (.frame .rsp [0x01, 0x81, 0x01, 0x81, 0x90]) = .ok (.rspxF01 0x01 0x9081, [])
      ∧ decode Config.default (.frame .rsp [0x01, 0x82, 0x01, 0x81, 0x60]) = .ok (.rspxF02 0x01 0x6081, [])
      ∧ decode Config.default (.frame .rsp [0x01, 0x83, 0x01, 0x80, 0xF0]) = .ok (.rspxF03 0x01 0xF080, [])
      ∧ decode Config.default (.frame .rsp [0x01, 0x84, 0x01, 0x82, 0xC0]) = .ok (.rspxF04 0x01 0xC082, [])
      ∧ decode Config.default (.frame .rsp [0x01, 0x85, 0x01, 0x83, 0x50]) = .ok (.rspxF05 0x01 0x5083, [])
      ∧ decode Config.default (.frame .rsp [0x01, 0x86, 0x01, 0x83, 0xA0]) = .ok (.rspxF06 0x01 0xA083, [])
      ∧ decode Config.default (.frame .rsp [0x01, 0x8F, 0x01, 0x85, 0xF0]) = .ok (.rspxF15 0x01 0xF085, [])
      ∧ decode Config.default (.frame .rsp [0x01, 0x90, 0x01, 0x8D, 0xC0]) = .ok (.rspxF16 0x01 0xC08D, [])
      ∧ decode Config.default (.frame .rsp [0x01, 0x91, 0x01, 0x8C, 0x50]) = .ok (.rspxF17 0x01 0x508C, []) := by
  decide

/-- R125 and R119: function byte 0x09 is in no table. -/
theorem test_decode_noise :
    decode Config.default (.frame .req [0x01, 0x09]) = .ok (.noiseReq 0x09, [])
      ∧ decode Config.default (.frame .rsp [0x01, 0x09]) = .ok (.noiseRsp 0x09, []) := by
  decide

/-- R190, R192 to R197. -/
theorem test_decode_samples :
    decode Config.default (.sample 33035 0x007B) = .ok (.energyToday 0x007B, [])
      ∧ decode Config.default (.sample 33057 0x0000) = .ok (.curGenHi 0x0000, [])
      ∧ decode Config.default (.sample 33058 0x00F0) = .ok (.curGenLo 0x00F0, [])
      ∧ decode Config.default (.sample 33139 0x000F) = .ok (.battSoc 0x000F, [])
      ∧ decode Config.default (.sample 33263 0xFFFF) = .ok (.meterHi 0xFFFF, [])
      ∧ decode Config.default (.sample 33264 0xFF30) = .ok (.meterLo 0xFF30, [])
      ∧ decode Config.default (.sample 33056 0x0001) = .ok (.unmapped 33056 0x0001, []) := by
  decide

/-- R90, R191: the rows that further entries of `REGMAP` add. -/
theorem test_decode_open_rows :
    decode withGridPower (.sample 0x817F 0xFFFF) = .ok (.openHigh 0x817F .gridP 0xFFFF, [])
      ∧ decode withGridPower (.sample 0x8180 0xFF50) = .ok (.openLow 0x8180 .gridP true 0 .watt 0xFF50, [])
      ∧ decode withGridPower (.sample 0x9000 0xFFFF) = .ok (.openSingle 0x9000 .loadP true (-1) .kilowatt 0xFFFF, []) := by
  decide

/-- A frame cut short and another slave's frame are rejected by name. -/
theorem test_decode_rejects :
    decode Config.default (.frame .req [0x01, 0x04, 0x81]) = .error .truncated
      ∧ decode Config.default (.frame .rsp [0x02, 0x04]) = .error (.wrongSlave 0x02) := by
  decide

/-- The bytes after a frame are handed back. -/
theorem test_decode_leaves_rest :
    decode Config.default (.frame .rsp [0x01, 0x84, 0x01, 0x82, 0xC0, 0xAA]) = .ok (.rspxF04 0x01 0xC082, [0xAA]) := by
  decide

/-! ### Encoding: the bytes of 30_encoding.md R77, R78, R79, R81 -/

theorem test_encode_frames :
    encode Config.default (.reqF04 33057 0x00 0x02 0xFD09)
        = .frame .req [0x01, 0x04, 0x81, 0x21, 0x00, 0x02, 0x09, 0xFD]
      ∧ encode Config.default (.reqF15 19 10 [0xCD, 0x01] 0xCB72)
        = .frame .req [0x01, 0x0F, 0x00, 0x13, 0x00, 0x0A, 0x02, 0xCD, 0x01, 0x72, 0xCB]
      ∧ encode Config.default (.rspF17 [0x12, 0x34] 0x4BB0) = .frame .rsp [0x01, 0x11, 0x02, 0x12, 0x34, 0xB0, 0x4B]
      ∧ encode Config.default (.rspxF17 0x01 0x508C) = .frame .rsp [0x01, 0x91, 0x01, 0x8C, 0x50]
      ∧ encode Config.default (.meterLo 0xFF30) = .sample 33264 0xFF30 := by
  decide

/-! ### The words of the opcode table -/

theorem test_table_words :
    decodeTableWord 8 0x81 = some .reqExcF01 ∧ decodeTableWord 8 0x00 = some (.noiseReq 0x00)
      ∧ decodeTableWord 16 0x8173 = some (.battSoc 0) ∧ decodeTableWord 16 0x0000 = some (.unmapped 0 0) := by
  decide +kernel
theorem test_table_word_request : decodeTableWord 8 0x04 = some (.reqF04 0 0 0 0) := by decide +kernel
theorem test_fetch_word_request_runs :
    nextIs (step (State.reset.withFetchWord 8 0x04)) (fun t => decide (t.failCause = .checksumMismatch)) = true := by
  decide +kernel
theorem test_fetch_word_sample_runs :
    nextIs (step (State.reset.withFetchWord 16 0x8121)) (fun t => decide (t.pend.curGen = true)) = true := by
  decide +kernel

/-! ### The checksum (40_crc16.md R110, R111) -/

theorem test_crc_request : crc16 [0x01, 0x04, 0x81, 0x21, 0x00, 0x02] = 0xFD09 := by decide +kernel
theorem test_crc_direct_request : crcDirect [0x01, 0x04, 0x81, 0x21, 0x00, 0x02] = 0xFD09 := by decide +kernel


/-! ### One step per instruction: the last byte of the spec's example frame -/

theorem test_step_reqF01 :
    nextIs (step (lacking .reqBody [0x01, 0x01, 0x00, 0x00, 0x00, 0x08, 0x3D, 0xCC]))
      (fun t => decide (t.out = [.reqFrame 0x01 0 none true 0xCC3D 0xCC3D]
        ∧ t.reqFn = 0x01
        ∧ t.reqAddr = 0
        ∧ t.ph = .rspSyncId)) = true := by
  decide +kernel
theorem test_step_reqF02 :
    nextIs (step (lacking .reqBody [0x01, 0x02, 0x00, 0x10, 0x00, 0x05, 0xB9, 0xCC]))
      (fun t => decide (t.out = [.reqFrame 0x02 16 none true 0xCCB9 0xCCB9]
        ∧ t.reqFn = 0x02
        ∧ t.reqAddr = 16
        ∧ t.ph = .rspSyncId)) = true := by
  decide +kernel
theorem test_step_reqF03 :
    nextIs (step (lacking .reqBody [0x01, 0x03, 0xA7, 0xF8, 0x00, 0x01, 0x26, 0x8F]))
      (fun t => decide (t.out = [.reqFrame 0x03 43000 none true 0x8F26 0x8F26]
        ∧ t.reqFn = 0x03
        ∧ t.reqAddr = 43000
        ∧ t.ph = .rspSyncId)) = true := by
  decide +kernel
theorem test_step_reqF04 :
    nextIs (step (lacking .reqBody [0x01, 0x04, 0x81, 0x21, 0x00, 0x02, 0x09, 0xFD]))
      (fun t => decide (t.out = [.reqFrame 0x04 33057 none true 0xFD09 0xFD09]
        ∧ t.reqFn = 0x04
        ∧ t.reqAddr = 33057
        ∧ t.ph = .rspSyncId)) = true := by
  decide +kernel
theorem test_step_reqF05 :
    nextIs (step (lacking .reqBody [0x01, 0x05, 0x00, 0x13, 0xFF, 0x00, 0x7D, 0xFF]))
      (fun t => decide (t.out = [.reqFrame 0x05 19 none true 0xFF7D 0xFF7D]
        ∧ t.reqFn = 0x05
        ∧ t.reqAddr = 19
        ∧ t.ph = .rspSyncId)) = true := by
  decide +kernel
theorem test_step_reqF06 :
    nextIs (step (lacking .reqBody [0x01, 0x06, 0xA8, 0x66, 0x00, 0x23, 0x08, 0x6C]))
      (fun t => decide (t.out = [.reqFrame 0x06 43110 none true 0x6C08 0x6C08]
        ∧ t.reqFn = 0x06
        ∧ t.reqAddr = 43110
        ∧ t.ph = .rspSyncId)) = true := by
  decide +kernel
theorem test_step_reqF15 :
    nextIs (step (lacking .reqBody [0x01, 0x0F, 0x00, 0x13, 0x00, 0x0A, 0x02, 0xCD, 0x01, 0x72, 0xCB]))
      (fun t => decide (t.out = [.reqFrame 0x0F 19 (some 2) true 0xCB72 0xCB72]
        ∧ t.reqFn = 0x0F
        ∧ t.reqAddr = 19
        ∧ t.ph = .rspSyncId)) = true := by
  decide +kernel
theorem test_step_reqF16 :
    nextIs (step (lacking .reqBody [0x01, 0x10, 0xA7, 0xF8, 0x00, 0x02, 0x04, 0x00, 0x0A, 0x01, 0x02, 0x83, 0x29]))
      (fun t => decide (t.out = [.reqFrame 0x10 43000 (some 4) true 0x2983 0x2983]
        ∧ t.reqFn = 0x10
        ∧ t.reqAddr = 43000
        ∧ t.ph = .rspSyncId)) = true := by
  decide +kernel
theorem test_step_reqF16_empty :
    nextIs (step (lacking .reqBody [0x01, 0x10, 0x12, 0x34, 0x00, 0x00, 0x00, 0xBF, 0x63]))
      (fun t => decide (t.out = [.reqFrame 0x10 4660 (some 0) true 0x63BF 0x63BF]
        ∧ t.reqFn = 0x10
        ∧ t.reqAddr = 4660
        ∧ t.ph = .rspSyncId)) = true := by
  decide +kernel
theorem test_step_reqRsid :
    nextIs (step (lacking .reqSyncFn [0x01, 0x11]))
      (fun t => decide (t.out = [.header .req 0x11 0, .fail .unsupportedFunction (.unsupportedFunction 0x11), .halt .unsupportedFunction]
        ∧ t.ph = .halted)) = true := by
  decide +kernel
theorem test_step_reqExcF01 :
    nextIs (step (lacking .reqSyncFn [0x01, 0x81]))
      (fun t => decide (t.out = [.header .req 0x81 0, .fail .unsupportedFunction (.unsupportedFunction 0x81), .halt .unsupportedFunction]
        ∧ t.ph = .halted)) = true := by
  decide +kernel
theorem test_step_reqExcF02 :
    nextIs (step (lacking .reqSyncFn [0x01, 0x82]))
      (fun t => decide (t.out = [.header .req 0x82 0, .fail .unsupportedFunction (.unsupportedFunction 0x82), .halt .unsupportedFunction]
        ∧ t.ph = .halted)) = true := by
  decide +kernel
theorem test_step_reqExcF03 :
    nextIs (step (lacking .reqSyncFn [0x01, 0x83]))
      (fun t => decide (t.out = [.header .req 0x83 0, .fail .unsupportedFunction (.unsupportedFunction 0x83), .halt .unsupportedFunction]
        ∧ t.ph = .halted)) = true := by
  decide +kernel
theorem test_step_reqExcF04 :
    nextIs (step (lacking .reqSyncFn [0x01, 0x84]))
      (fun t => decide (t.out = [.header .req 0x84 0, .fail .unsupportedFunction (.unsupportedFunction 0x84), .halt .unsupportedFunction]
        ∧ t.ph = .halted)) = true := by
  decide +kernel
theorem test_step_reqExcF05 :
    nextIs (step (lacking .reqSyncFn [0x01, 0x85]))
      (fun t => decide (t.out = [.header .req 0x85 0, .fail .unsupportedFunction (.unsupportedFunction 0x85), .halt .unsupportedFunction]
        ∧ t.ph = .halted)) = true := by
  decide +kernel
theorem test_step_reqExcF06 :
    nextIs (step (lacking .reqSyncFn [0x01, 0x86]))
      (fun t => decide (t.out = [.header .req 0x86 0, .fail .unsupportedFunction (.unsupportedFunction 0x86), .halt .unsupportedFunction]
        ∧ t.ph = .halted)) = true := by
  decide +kernel
theorem test_step_reqExcF15 :
    nextIs (step (lacking .reqSyncFn [0x01, 0x8F]))
      (fun t => decide (t.out = [.header .req 0x8F 0, .fail .unsupportedFunction (.unsupportedFunction 0x8F), .halt .unsupportedFunction]
        ∧ t.ph = .halted)) = true := by
  decide +kernel
theorem test_step_reqExcF16 :
    nextIs (step (lacking .reqSyncFn [0x01, 0x90]))
      (fun t => decide (t.out = [.header .req 0x90 0, .fail .unsupportedFunction (.unsupportedFunction 0x90), .halt .unsupportedFunction]
        ∧ t.ph = .halted)) = true := by
  decide +kernel
theorem test_step_reqExcF17 :
    nextIs (step (lacking .reqSyncFn [0x01, 0x91]))
      (fun t => decide (t.out = [.header .req 0x91 0, .fail .unsupportedFunction (.unsupportedFunction 0x91), .halt .unsupportedFunction]
        ∧ t.ph = .halted)) = true := by
  decide +kernel
theorem test_step_rspF01 :
    nextIs (step (answering .rspBody [0x01, 0x01, 0x02, 0x12, 0x34, 0xB4, 0x8B]))
      (fun t => decide (t.out = [.rspFrame 0x01 2 true 0x8BB4 0x8BB4 false]
        ∧ t.acc.curGen = 0x12340000
        ∧ t.pend.curGen = true
        ∧ t.ph = .reqSyncId)) = true := by
  decide +kernel
theorem test_step_rspF02 :
    nextIs (step (answering .rspBody [0x01, 0x02, 0x02, 0x12, 0x34, 0xB4, 0xCF]))
      (fun t => decide (t.out = [.rspFrame 0x02 2 true 0xCFB4 0xCFB4 false]
        ∧ t.acc.curGen = 0x12340000
        ∧ t.pend.curGen = true
        ∧ t.ph = .reqSyncId)) = true := by
  decide +kernel
theorem test_step_rspF03 :
    nextIs (step (answering .rspBody [0x01, 0x03, 0x02, 0x12, 0x34, 0xB5, 0x33]))
      (fun t => decide (t.out = [.rspFrame 0x03 2 true 0x33B5 0x33B5 false]
        ∧ t.acc.curGen = 0x12340000
        ∧ t.pend.curGen = true
        ∧ t.ph = .reqSyncId)) = true := by
  decide +kernel
theorem test_step_rspF04 :
    nextIs (step (answering .rspBody [0x01, 0x04, 0x02, 0x12, 0x34, 0xB4, 0x47]))
      (fun t => decide (t.out = [.rspFrame 0x04 2 true 0x47B4 0x47B4 true]
        ∧ t.acc.curGen = 0x12340000
        ∧ t.pend.curGen = true
        ∧ t.ph = .reqSyncId)) = true := by
  decide +kernel
theorem test_step_rspF05 :
    nextIs (step (answering .rspBody [0x01, 0x05, 0x02, 0x12, 0x34, 0xB5, 0xBB]))
      (fun t => decide (t.out = [.rspFrame 0x05 2 true 0xBBB5 0xBBB5 false]
        ∧ t.acc.curGen = 0x12340000
        ∧ t.pend.curGen = true
        ∧ t.ph = .reqSyncId)) = true := by
  decide +kernel
theorem test_step_rspF06 :
    nextIs (step (answering .rspBody [0x01, 0x06, 0x02, 0x12, 0x34, 0xB5, 0xFF]))
      (fun t => decide (t.out = [.rspFrame 0x06 2 true 0xFFB5 0xFFB5 false]
        ∧ t.acc.curGen = 0x12340000
        ∧ t.pend.curGen = true
        ∧ t.ph = .reqSyncId)) = true := by
  decide +kernel
theorem test_step_rspF15 :
    nextIs (step (answering .rspBody [0x01, 0x0F, 0x02, 0x12, 0x34, 0xB6, 0x63]))
      (fun t => decide (t.out = [.rspFrame 0x0F 2 true 0x63B6 0x63B6 false]
        ∧ t.acc.curGen = 0x12340000
        ∧ t.pend.curGen = true
        ∧ t.ph = .reqSyncId)) = true := by
  decide +kernel
theorem test_step_rspF16 :
    nextIs (step (answering .rspBody [0x01, 0x10, 0x02, 0x12, 0x34, 0xB1, 0xB7]))
      (fun t => decide (t.out = [.rspFrame 0x10 2 true 0xB7B1 0xB7B1 false]
        ∧ t.acc.curGen = 0x12340000
        ∧ t.pend.curGen = true
        ∧ t.ph = .reqSyncId)) = true := by
  decide +kernel
theorem test_step_rspF17 :
    nextIs (step (answering .rspBody [0x01, 0x11, 0x02, 0x12, 0x34, 0xB0, 0x4B]))
      (fun t => decide (t.out = [.rspFrame 0x11 2 true 0x4BB0 0x4BB0 false]
        ∧ t.acc.curGen = 0x12340000
        ∧ t.pend.curGen = true
        ∧ t.ph = .reqSyncId)) = true := by
  decide +kernel
theorem test_step_rspxF01 :
    nextIs (step (answering .rspExc [0x01, 0x81, 0x01, 0x81, 0x90]))
      (fun t => decide (t.out = [.excFrame 0x81 1 true 0x9081 0x9081 false]
        ∧ t.ph = .reqSyncId)) = true := by
  decide +kernel
theorem test_step_rspxF02 :
    nextIs (step (answering .rspExc [0x01, 0x82, 0x01, 0x81, 0x60]))
      (fun t => decide (t.out = [.excFrame 0x82 1 true 0x6081 0x6081 false]
        ∧ t.ph = .reqSyncId)) = true := by
  decide +kernel
theorem test_step_rspxF03 :
    nextIs (step (answering .rspExc [0x01, 0x83, 0x01, 0x80, 0xF0]))
      (fun t => decide (t.out = [.excFrame 0x83 1 true 0xF080 0xF080 false]
        ∧ t.ph = .reqSyncId)) = true := by
  decide +kernel
theorem test_step_rspxF04 :
    nextIs (step (answering .rspExc [0x01, 0x84, 0x01, 0x82, 0xC0]))
      (fun t => decide (t.out = [.excFrame 0x84 1 true 0xC082 0xC082 true]
        ∧ t.ph = .reqSyncId)) = true := by
  decide +kernel
theorem test_step_rspxF05 :
    nextIs (step (answering .rspExc [0x01, 0x85, 0x01, 0x83, 0x50]))
      (fun t => decide (t.out = [.excFrame 0x85 1 true 0x5083 0x5083 false]
        ∧ t.ph = .reqSyncId)) = true := by
  decide +kernel
theorem test_step_rspxF06 :
    nextIs (step (answering .rspExc [0x01, 0x86, 0x01, 0x83, 0xA0]))
      (fun t => decide (t.out = [.excFrame 0x86 1 true 0xA083 0xA083 false]
        ∧ t.ph = .reqSyncId)) = true := by
  decide +kernel
theorem test_step_rspxF15 :
    nextIs (step (answering .rspExc [0x01, 0x8F, 0x01, 0x85, 0xF0]))
      (fun t => decide (t.out = [.excFrame 0x8F 1 true 0xF085 0xF085 false]
        ∧ t.ph = .reqSyncId)) = true := by
  decide +kernel
theorem test_step_rspxF16 :
    nextIs (step (answering .rspExc [0x01, 0x90, 0x01, 0x8D, 0xC0]))
      (fun t => decide (t.out = [.excFrame 0x90 1 true 0xC08D 0xC08D false]
        ∧ t.ph = .reqSyncId)) = true := by
  decide +kernel
theorem test_step_rspxF17 :
    nextIs (step (answering .rspExc [0x01, 0x91, 0x01, 0x8C, 0x50]))
      (fun t => decide (t.out = [.excFrame 0x91 1 true 0x508C 0x508C false]
        ∧ t.ph = .reqSyncId)) = true := by
  decide +kernel

/-- R125: the rejected header of the example's second and third bytes, one byte having been skipped before. -/
theorem test_step_noiseReq :
    nextIs (step { lacking .reqSyncFn [0x01, 0x09] with skipped := 1 })
      (fun t => decide (t.skipped = 3 ∧ t.ph = .reqSyncId ∧ t.len = 0 ∧ t.fb = [] ∧ t.out = [])) = true := by
  decide +kernel
theorem test_step_noiseRsp :
    nextIs (step (lacking .rspSyncFn [0x01, 0x09])) (fun t => decide (t.skipped = 2 ∧ t.ph = .rspSyncId ∧ t.out = [])) = true := by
  decide +kernel

/-! ### The register rows (R192 to R197, R190) -/

theorem test_exec_energyToday :
    nextIs (exec (.energyToday 0x007B) State.reset) (fun t => decide (t.out = [.meas .energyToday 123 (-1) .kilowattHour])) = true := by
  decide
theorem test_exec_curGenHi_zero :
    nextIs (exec (.curGenHi 0x0000) State.reset) (fun t => decide (t.acc.curGen = 0 ∧ t.pend.curGen = true ∧ t.out = [])) = true := by
  decide
theorem test_exec_curGenLo_pending :
    nextIs (exec (.curGenLo 0x00F0) pendingBoth) (fun t => decide (t.out = [.meas .curGen 240 0 .watt] ∧ t.pend.curGen = false))
      = true := by
  decide
theorem test_exec_curGenLo_alone :
    nextIs (exec (.curGenLo 0x00F0) State.reset) (fun t => decide (t.out = [.lowWithoutHigh .curGen])) = true := by
  decide
theorem test_exec_battSoc :
    nextIs (exec (.battSoc 0xFFFF) State.reset) (fun t => decide (t.out = [.meas .battSoc 65535 0 .percent])) = true := by
  decide
theorem test_exec_meterHi :
    nextIs (exec (.meterHi 0xFFFF) State.reset)
      (fun t => decide (t.acc.meterTotalP = 0xFFFF0000 ∧ t.pend.meterTotalP = true)) = true := by
  decide
theorem test_exec_meterLo_negative :
    nextIs (exec (.meterLo 0xFF30) pendingBoth)
      (fun t => decide (t.out = [.meas .meterTotalP (-208) (-3) .kilowatt] ∧ t.pend.meterTotalP = false)) = true := by
  decide
theorem test_exec_meterLo_smallest :
    nextIs (exec (.meterLo 0x0000) { pendingBoth with acc := { pendingBoth.acc with meterTotalP := 0x80000000 } })
      (fun t => decide (t.out = [.meas .meterTotalP (-2147483648) (-3) .kilowatt])) = true := by
  decide
theorem test_exec_unmapped : nextIs (exec (.unmapped 33056 0x0001) pendingBoth) (fun t => decide (t = pendingBoth)) = true := by
  decide
theorem test_exec_openSingle :
    nextIs (exec (.openSingle 0x9000 .loadP true (-1) .kilowatt 0xFFFF) State.reset)
      (fun t => decide (t.out = [.meas .loadP (-1) (-1) .kilowatt])) = true := by
  decide
theorem test_exec_openHigh :
    nextIs (exec (.openHigh 0x817F .gridP 0xFFFF) State.reset) (fun t => decide (t.acc.gridP = 0xFFFF0000 ∧ t.pend.gridP = true))
      = true := by
  decide
theorem test_exec_openLow_alone :
    nextIs (exec (.openLow 0x8180 .gridP true 0 .watt 0xFF50) pendingBoth)
      (fun t => decide (t.out = [.lowWithoutHigh .gridP] ∧ t.acc = pendingBoth.acc)) = true := by
  decide

/-! ### Worked examples of single steps: R177, R176, and the odd byte -/

/-- R177 (a). -/
theorem test_step_measurement :
    nextIs (step (answering .rspBody [0x01, 0x04, 0x04, 0x00, 0x00, 0x00, 0xF0, 0xFB, 0xC0]))
      (fun t => decide (t.out = [.rspFrame 0x04 4 true 0xC0FB 0xC0FB true, .meas .curGen 240 0 .watt]
        ∧ t.pend.curGen = false)) = true := by
  decide +kernel
/-- R177 (b): a corrupted byte. -/
theorem test_step_corrupted_response :
    nextIs (step (answering .rspBody [0x01, 0x04, 0x04, 0x00, 0x01, 0x00, 0xF0, 0xFB, 0xC0]))
      (fun t => decide (t.out = [.rspFrame 0x04 4 false 0x00AA 0xC0FB true,
          .fail .checksumMismatch (.checksumMismatch 0x00AA 0xC0FB), .halt .checksumMismatch]
        ∧ t.acc = State.reset.acc ∧ t.pend = State.reset.pend)) = true := by
  decide +kernel
/-- R176 (c): three payload bytes are one sample. -/
theorem test_step_odd_payload :
    nextIs (step (answering .rspBody [0x01, 0x04, 0x03, 0x00, 0x00, 0x00, 0xF0, 0x4E]))
      (fun t => decide (t.out = [.rspFrame 0x04 3 true 0x4EF0 0x4EF0 true] ∧ t.pend.curGen = true)) = true := by
  decide +kernel
/-- R176 (d): sample addresses wrap. -/
theorem test_samples_wrap : samples 0xFFFF [0x12, 0x34, 0x56, 0x78] = [(0xFFFF, 0x1234), (0x0000, 0x5678)] := by decide
/-- R243: the example of `ShortRead` on a capture. -/
theorem test_step_short_read :
    nextIs (step (collected .reqBody [0x01, 0x04, 0x81, 0x21] 4 [.short]))
      (fun t => decide (t.out = [.fail .shortRead (.shortRead .reqBody 4 4), .halt .shortRead] ∧ t.ph = .halted)) = true := by
  decide +kernel

/-! ### Witnesses: for each statement with hypotheses, concrete inputs that meet them together, clause by clause -/

/-- The request of R111 and the response of R177 (a). -/
def request : List Byte := [0x01, 0x04, 0x81, 0x21, 0x00, 0x02, 0x09, 0xFD]
def response : List Byte := [0x01, 0x04, 0x04, 0x00, 0x00, 0x00, 0xF0, 0xFB, 0xC0]

/-- A block that searches for a header, one that holds the slave byte, with one byte to arrive. -/
def seeking (ph : Phase) (b : Byte) : State := collected ph [] 0 [.byte b]
def candidate (ph : Phase) (f : Byte) : State := collected ph [0x01] 0 [.byte f]

/-- `RequestEncodingRoundTrips`, at the longest data and on a row without operands. -/
theorem witness_request_round_trip :
    Config.default.wf = true
      ∧ (Instr.reqF16 43000 2 (List.replicate 255 0xAB) 0x2983).wf Config.default = true
      ∧ encode Config.default (.reqF16 43000 2 (List.replicate 255 0xAB) 0x2983)
        = .frame .req (frameOf Config.default 0x10 (varBody 43000 2 (List.replicate 255 0xAB)) 0x2983)
      ∧ Instr.reqRsid.wf Config.default = true ∧ encode Config.default .reqRsid = .frame .req [0x01, 0x11] := by
  decide +kernel

/-- `ResponseEncodingRoundTrips`. -/
theorem witness_response_round_trip :
    Config.default.wf = true
      ∧ (Instr.rspF17 (List.replicate 255 0xAB) 0x4BB0).wf Config.default = true
      ∧ encode Config.default (.rspF17 (List.replicate 255 0xAB) 0x4BB0)
        = .frame .rsp (frameOf Config.default 0x11 (normalBody (List.replicate 255 0xAB)) 0x4BB0)
      ∧ (Instr.noiseRsp 0x09).wf Config.default = true
      ∧ encode Config.default (.noiseRsp 0x09) = .frame .rsp [0x01, 0x09] := by
  decide +kernel

/-- `SampleEncodingRoundTrips`. -/
theorem witness_sample_round_trip :
    withGridPower.wf = true ∧ (Instr.unmapped 33056 7).wf withGridPower = true
      ∧ encode withGridPower (.unmapped 33056 7) = .sample 33056 7
      ∧ (Instr.openLow 0x8180 .gridP true 0 .watt 7).wf withGridPower = true
      ∧ encode withGridPower (.openLow 0x8180 .gridP true 0 .watt 7) = .sample 0x8180 7 := by
  decide +kernel

/-- `DecodedFrameIsItsEncoding`, with bytes left over. -/
theorem witness_decoded_frame :
    decode Config.default (.frame .req (request ++ [0x55])) = .ok (.reqF04 33057 0x00 0x02 0xFD09, [0x55]) := by
  decide

/-- `EveryFunctionByteHasARow` and `EighteenFunctionBytesPass`. -/
theorem witness_function_bytes : Config.default.wf = true ∧ 262 ≤ (List.replicate 262 (0 : Byte)).length := by
  decide +kernel

/-- `SingleByteCorruptionDetected`: a covered byte, and the last byte of the CRC. -/
theorem witness_corruption :
    ((0x81 : Byte) ≠ 0x80 ∧ 2 ≤ [0x01, 0x04].length + 1 + [0x21, 0x00, 0x02, 0x09, 0xFD].length
        ∧ frameValid ([0x01, 0x04] ++ 0x81 :: [0x21, 0x00, 0x02, 0x09, 0xFD]) = true)
      ∧ (0xFD : Byte) ≠ 0x00 ∧ 2 ≤ [0x01, 0x04, 0x81, 0x21, 0x00, 0x02, 0x09].length + 1 + ([] : List Byte).length
        ∧ frameValid ([0x01, 0x04, 0x81, 0x21, 0x00, 0x02, 0x09] ++ 0xFD :: []) = true := by
  decide +kernel

/-- `FrameCrcCoversItsBytes`, on the shortest frame and on a request. -/
theorem witness_frame_crc :
    (5 ≤ [0x01, 0x84, 0x01, 0x82, 0xC0].length
        ∧ decode State.reset.cfg (.frame .rsp [0x01, 0x84, 0x01, 0x82, 0xC0]) = .ok (.rspxF04 0x01 0xC082, []))
      ∧ 5 ≤ request.length ∧ decode State.reset.cfg (.frame .req request) = .ok (.reqF04 33057 0x00 0x02 0xFD09, []) := by
  decide

/-- `HeaderSearchByte`: found in request position; not found in response position, with a full counter. -/
theorem witness_header_search_found :
    (Phase.reqSyncId, Phase.reqSyncFn) ∈ [(Phase.reqSyncId, Phase.reqSyncFn), (Phase.rspSyncId, Phase.rspSyncFn)]
      ∧ (seeking .reqSyncId 0x01).cfg.wf = true ∧ (seeking .reqSyncId 0x01).ph = .reqSyncId
      ∧ (seeking .reqSyncId 0x01).inp = .byte 0x01 :: [] ∧ 0x01 = (seeking .reqSyncId 0x01).cfg.expectedSlave := by
  decide +kernel
theorem witness_header_search_skips :
    (Phase.rspSyncId, Phase.rspSyncFn) ∈ [(Phase.reqSyncId, Phase.reqSyncFn), (Phase.rspSyncId, Phase.rspSyncFn)]
      ∧ ({ seeking .rspSyncId 0xFF with skipped := 0xFFFFFFFF } : State).cfg.wf = true
      ∧ ({ seeking .rspSyncId 0xFF with skipped := 0xFFFFFFFF } : State).ph = .rspSyncId
      ∧ ({ seeking .rspSyncId 0xFF with skipped := 0xFFFFFFFF } : State).inp = .byte 0xFF :: []
      ∧ 0xFF ≠ (seeking .rspSyncId 0xFF).cfg.expectedSlave := by
  decide +kernel
/-- At that boundary the counter stays full (R26, R117). -/
theorem test_step_skipped_saturates :
    nextIs (step { seeking .rspSyncId 0xFF with skipped := 0xFFFFFFFF }) (fun t => decide (t.skipped = 0xFFFFFFFF)) = true := by
  decide +kernel

/-- The hypotheses of `RequestFunctionByte` for a function byte. -/
def requestFunctionHyps (f : Byte) : Bool :=
  (candidate .reqSyncFn f).cfg.wf && decide ((candidate .reqSyncFn f).ph = .reqSyncFn)
    && decide ((candidate .reqSyncFn f).len = 1)
    && decide (readByte (candidate .reqSyncFn f).fb 0 = some (candidate .reqSyncFn f).cfg.expectedSlave)
    && decide ((candidate .reqSyncFn f).inp = [.byte f])

/-- `RequestFunctionByte`, both ends of each clause. -/
theorem witness_request_function_fixed :
    requestFunctionHyps 0x01 = true ∧ 0x01 ∈ ([1, 2, 3, 4, 5, 6] : List Byte)
      ∧ requestFunctionHyps 0x06 = true ∧ 0x06 ∈ ([1, 2, 3, 4, 5, 6] : List Byte) := by
  decide +kernel
theorem witness_request_function_prefix :
    requestFunctionHyps 0x0F = true ∧ 0x0F ∈ ([15, 16] : List Byte)
      ∧ requestFunctionHyps 0x10 = true ∧ 0x10 ∈ ([15, 16] : List Byte) := by
  decide +kernel
theorem witness_request_function_unsupported :
    requestFunctionHyps 0x11 = true ∧ 0x11 = Config.default.fcRsid ∧ requestFunctionHyps 0x81 = true
      ∧ 0x81 ∈ ([1, 2, 3, 4, 5, 6, 15, 16, Config.default.fcRsid] : List Byte).map (0x80 ||| ·)
      ∧ requestFunctionHyps 0x91 = true
      ∧ 0x91 ∈ ([1, 2, 3, 4, 5, 6, 15, 16, Config.default.fcRsid] : List Byte).map (0x80 ||| ·) := by
  decide +kernel
theorem witness_request_function_rejected :
    requestFunctionHyps 0x00 = true ∧ (0x00 : Byte) &&& 0x7F ∉ ([1, 2, 3, 4, 5, 6, 15, 16, Config.default.fcRsid] : List Byte)
      ∧ requestFunctionHyps 0x87 = true
      ∧ (0x87 : Byte) &&& 0x7F ∉ ([1, 2, 3, 4, 5, 6, 15, 16, Config.default.fcRsid] : List Byte) := by
  decide +kernel

/-- `ResponseFunctionByte`, both clauses. -/
theorem witness_response_function :
    (candidate .rspSyncFn 0x84).cfg.wf = true ∧ (candidate .rspSyncFn 0x84).ph = .rspSyncFn
      ∧ (candidate .rspSyncFn 0x84).len = 1
      ∧ readByte (candidate .rspSyncFn 0x84).fb 0 = some (candidate .rspSyncFn 0x84).cfg.expectedSlave
      ∧ (candidate .rspSyncFn 0x84).inp = [.byte 0x84]
      ∧ (0x84 : Byte) &&& 0x7F ∈ ([1, 2, 3, 4, 5, 6, 15, 16, Config.default.fcRsid] : List Byte)
      ∧ (candidate .rspSyncFn 0x09).inp = [.byte 0x09]
      ∧ (0x09 : Byte) &&& 0x7F ∉ ([1, 2, 3, 4, 5, 6, 15, 16, Config.default.fcRsid] : List Byte) := by
  decide +kernel

/-- `RequestBodyByte`: a byte in the middle, and the last byte; and the largest index, 263, a byte may be stored at. -/
theorem witness_request_body_more :
    (collected .reqBody [0x01, 0x04] 6 [.byte 0x81]).cfg.wf = true ∧ (collected .reqBody [0x01, 0x04] 6 [.byte 0x81]).ph = .reqBody
      ∧ (collected .reqBody [0x01, 0x04] 6 [.byte 0x81]).len < 264
      ∧ (collected .reqBody [0x01, 0x04] 6 [.byte 0x81]).inp = [.byte 0x81]
      ∧ 1 < (collected .reqBody [0x01, 0x04] 6 [.byte 0x81]).need := by
  decide +kernel
theorem witness_request_body_last :
    (lacking .reqBody request).cfg.wf = true ∧ (lacking .reqBody request).ph = .reqBody ∧ (lacking .reqBody request).len < 264
      ∧ (lacking .reqBody request).inp = [.byte 0xFD] ∧ (lacking .reqBody request).need = 1
      ∧ readFrame (lacking .reqBody request).fb 0 (lacking .reqBody request).len = .next request.dropLast
      ∧ decodeRequest (lacking .reqBody request).cfg (request.dropLast ++ [0xFD])
        = .ok (.reqF04 33057 0x00 0x02 0xFD09, []) :=
  ⟨by decide +kernel, rfl, by decide, by decide, rfl, rfl, by decide⟩
theorem witness_last_index : (collected .reqBody (List.replicate 263 0) 1 [.byte 0]).len < 264
    ∧ nextIs (putByte 263 0 State.reset) (fun t => decide (t.len = 264)) = true
    ∧ nextIs (putByte 264 0 State.reset) (fun _ => true) = false := by
  decide +kernel

/-- `RequestPrefixByte`, both clauses. -/
theorem witness_request_prefix :
    (collected .reqPrefix [0x01, 0x10] 5 [.byte 0xA7]).cfg.wf = true ∧ (collected .reqPrefix [0x01, 0x10] 5 [.byte 0xA7]).ph = .reqPrefix
      ∧ (collected .reqPrefix [0x01, 0x10] 5 [.byte 0xA7]).len < 264 ∧ 1 < (collected .reqPrefix [0x01, 0x10] 5 [.byte 0xA7]).need
      ∧ (collected .reqPrefix [0x01, 0x10, 0xA7, 0xF8, 0x00, 0x02] 1 [.byte 0xFF]).need = 1
      ∧ (collected .reqPrefix [0x01, 0x10, 0xA7, 0xF8, 0x00, 0x02] 1 [.byte 0xFF]).len = 6
      ∧ (collected .reqPrefix [0x01, 0x10, 0xA7, 0xF8, 0x00, 0x02] 1 [.byte 0xFF]).inp = [.byte 0xFF] := by
  decide +kernel
/-- The largest byte count leaves 257 bytes to read (R23). -/
theorem test_step_prefix_largest :
    nextIs (step (collected .reqPrefix [0x01, 0x10, 0xA7, 0xF8, 0x00, 0x02] 1 [.byte 0xFF]))
      (fun t => decide (t.need = 257 ∧ t.len = 7 ∧ t.ph = .reqBody)) = true := by
  decide +kernel

/-- `ResponseThirdByte`, with the exception flag and without. -/
theorem witness_response_third :
    (collected .rspBc [0x01, 0x84] 0 [.byte 0x02]).cfg.wf = true ∧ (collected .rspBc [0x01, 0x84] 0 [.byte 0x02]).ph = .rspBc
      ∧ (collected .rspBc [0x01, 0x84] 0 [.byte 0x02]).inp = [.byte 0x02]
      ∧ (collected .rspBc [0x01, 0x84] 0 [.byte 0x02]).fn.getLsbD 7 = true
      ∧ (collected .rspBc [0x01, 0x04] 0 [.byte 0x00]).inp = [.byte 0x00]
      ∧ (collected .rspBc [0x01, 0x04] 0 [.byte 0x00]).fn.getLsbD 7 = false := by
  decide +kernel

/-- `ResponseBodyByte`, both phases and both clauses. -/
theorem witness_response_body_more :
    (collected .rspExc [0x01, 0x84, 0x02] 2 [.byte 0xC2]).cfg.wf = true
      ∧ (collected .rspExc [0x01, 0x84, 0x02] 2 [.byte 0xC2]).ph = .rspExc
      ∧ (collected .rspExc [0x01, 0x84, 0x02] 2 [.byte 0xC2]).len < 264
      ∧ (collected .rspExc [0x01, 0x84, 0x02] 2 [.byte 0xC2]).inp = [.byte 0xC2]
      ∧ 1 < (collected .rspExc [0x01, 0x84, 0x02] 2 [.byte 0xC2]).need := by
  decide +kernel
theorem witness_response_body_last :
    (answering .rspBody response).cfg.wf = true ∧ (answering .rspBody response).ph = .rspBody
      ∧ (answering .rspBody response).len < 264 ∧ (answering .rspBody response).inp = [.byte 0xC0]
      ∧ (answering .rspBody response).need = 1
      ∧ readFrame (answering .rspBody response).fb 0 (answering .rspBody response).len = .next response.dropLast
      ∧ decodeResponse (answering .rspBody response).cfg (response.dropLast ++ [0xC0])
        = .ok (.rspF04 [0x00, 0x00, 0x00, 0xF0] 0xC0FB, []) :=
  ⟨by decide +kernel, rfl, by decide, by decide, rfl, rfl, by decide⟩

/-- `StepRunsDecodedInstruction`: its three cases. -/
theorem witness_step_runs_frame :
    (lacking .reqBody request).cfg.wf = true ∧ (lacking .reqBody request).inp = .byte 0xFD :: []
      ∧ readFrame (lacking .reqBody request).fb 0 (lacking .reqBody request).len = .next request.dropLast
      ∧ decode (lacking .reqBody request).cfg (.frame .req (request.dropLast ++ [0xFD]))
        = .ok (.reqF04 33057 0x00 0x02 0xFD09, [])
      ∧ ((lacking .reqBody request).ph, Dir.req)
        ∈ [(Phase.reqBody, Dir.req), (Phase.rspExc, Dir.rsp), (Phase.rspBody, Dir.rsp)]
      ∧ (lacking .reqBody request).need = 1 ∧ (lacking .reqBody request).len < 264 :=
  ⟨by decide +kernel, by decide, rfl, by decide, by decide, rfl, by decide⟩
theorem witness_step_runs_noise :
    (candidate .rspSyncFn 0x09).cfg.wf = true ∧ (candidate .rspSyncFn 0x09).inp = .byte 0x09 :: []
      ∧ readFrame (candidate .rspSyncFn 0x09).fb 0 (candidate .rspSyncFn 0x09).len = .next [0x01]
      ∧ decode (candidate .rspSyncFn 0x09).cfg (.frame .rsp ([0x01] ++ [0x09])) = .ok (.noiseRsp 0x09, [])
      ∧ ((candidate .rspSyncFn 0x09).ph, Dir.rsp) ∈ [(Phase.reqSyncFn, Dir.req), (Phase.rspSyncFn, Dir.rsp)]
      ∧ syncAccept (candidate .rspSyncFn 0x09).cfg 0x09 = false :=
  ⟨by decide +kernel, rfl, rfl, by decide, by decide, by decide⟩
theorem witness_step_runs_bare :
    (candidate .reqSyncFn 0x91).cfg.wf = true ∧ (candidate .reqSyncFn 0x91).inp = .byte 0x91 :: []
      ∧ readFrame (candidate .reqSyncFn 0x91).fb 0 (candidate .reqSyncFn 0x91).len = .next [0x01]
      ∧ decode (candidate .reqSyncFn 0x91).cfg (.frame .req ([0x01] ++ [0x91])) = .ok (.reqExcF17, [])
      ∧ (candidate .reqSyncFn 0x91).ph = .reqSyncFn ∧ (candidate .reqSyncFn 0x91).len = 1
      ∧ syncAccept (candidate .reqSyncFn 0x91).cfg 0x91 = true ∧ 0x91 ∉ requestFns :=
  ⟨by decide +kernel, rfl, rfl, by decide, rfl, rfl, by decide, by decide⟩

/-- `RequestFrameRuns`, `ResponseFrameRuns` and `TransactionYieldsMeasurement`. -/
theorem witness_request_run :
    Config.default.wf = true ∧ (Instr.reqF04 33057 0x00 0x02 0xFD09).wf Config.default = true
      ∧ encode Config.default (.reqF04 33057 0x00 0x02 0xFD09) = .frame .req request ∧ 5 ≤ request.length
      ∧ ({ State.reset with inp := request.map .byte ++ [.short] } : State).ph = .reqSyncId
      ∧ ({ State.reset with inp := request.map .byte ++ [.short] } : State).fb = [] := by
  decide +kernel
theorem witness_response_run :
    Config.default.wf = true ∧ (Instr.rspF04 [0x00, 0x00, 0x00, 0xF0] 0xC0FB).wf Config.default = true
      ∧ encode Config.default (.rspF04 [0x00, 0x00, 0x00, 0xF0] 0xC0FB) = .frame .rsp response ∧ 5 ≤ response.length
      ∧ ({ State.reset with ph := .rspSyncId, inp := response.map .byte } : State).ph = .rspSyncId
      ∧ ({ State.reset with ph := .rspSyncId, inp := response.map .byte } : State).fb = [] := by
  decide +kernel
theorem witness_transaction :
    lookupEntry Config.default.regMap 33057 = some (.high .curGen)
      ∧ lookupEntry Config.default.regMap (33057 + 1) = some (.low .curGen false 0 .watt)
      ∧ encode Config.default (.reqF04 33057 0 2 (crc16 (Config.default.expectedSlave :: 4 :: fixedBody 33057 0 2)))
        = .frame .req request
      ∧ encode Config.default (.rspF04 [hiByte 0x0000, loByte 0x0000, hiByte 0x00F0, loByte 0x00F0]
          (crc16 [Config.default.expectedSlave, 4, 4, hiByte 0x0000, loByte 0x0000, hiByte 0x00F0, loByte 0x00F0]))
        = .frame .rsp response
      ∧ ({ State.reset with inp := (request ++ response).map .byte ++ [] } : State).inp
        = (request ++ response).map .byte ++ [] := by
  decide +kernel

/-- `RequestCompletion`: a row of each format, with a CRC that agrees and one that does not. -/
theorem witness_request_completion :
    crc16 (Config.default.expectedSlave :: 0x04 :: [hiByte 33057, loByte 33057, 0x00, 0x02]) = 0xFD09
      ∧ crc16 (Config.default.expectedSlave :: 0x04 :: [hiByte 33057, loByte 33057, 0x00, 0x02]) ≠ 0x0000
      ∧ crc16 (Config.default.expectedSlave :: 0x10 ::
          ([hiByte 0x1234, loByte 0x1234, hiByte 0, loByte 0, BitVec.ofNat 8 0] ++ [])) = 0x63BF := by
  decide +kernel

/-- `NormalResponseCompletion` and `ExceptionResponseCompletion`: a CRC that agrees and one that does not. -/
theorem witness_response_completion :
    crc16 (Config.default.expectedSlave :: Config.default.fcRsid :: 0x02 :: [0x12, 0x34]) = 0x4BB0
      ∧ crc16 (Config.default.expectedSlave :: 0x04 :: 0x04 :: [0x00, 0x01, 0x00, 0xF0]) ≠ 0xC0FB
      ∧ crc16 [Config.default.expectedSlave, 0x84, 0x02] = 0xC1C2
      ∧ crc16 [Config.default.expectedSlave, 0x80 ||| Config.default.fcRsid, 0x01] ≠ 0x0000 := by
  decide +kernel

/-- `UnsupportedRequestsFail` and `NoiseIsSkipped`: a row each, on a live link and on a capture. -/
theorem witness_row_lists :
    (Instr.reqExcF17, (0x91 : Byte)) ∈ ([(.reqRsid, Config.default.fcRsid), (.reqExcF17, 0x80 ||| Config.default.fcRsid)]
        : List (Instr × Byte))
      ∧ (live State.reset).cfg.isLive = true ∧ State.reset.cfg.isLive = false
      ∧ (Instr.noiseRsp 0x09, Phase.rspSyncId) ∈ ([(.noiseReq 0x09, .reqSyncId), (.noiseRsp 0x09, .rspSyncId)]
        : List (Instr × Phase)) := by
  decide

/-- `LowWordRows`: pending and not pending, for both quantities. -/
theorem witness_low_words :
    pendingBoth.pend.curGen = true ∧ State.reset.pend.curGen = false ∧ pendingBoth.pend.meterTotalP = true
      ∧ State.reset.pend.meterTotalP = false := by
  decide

/-- `UnmappedSampleIgnored`. -/
theorem witness_unmapped : lookupEntry State.reset.cfg.regMap 33056 = none := by decide

/-- `SampleDecodedByTable`: an address of each kind of entry, an open one among them. -/
theorem witness_sample_kinds :
    withGridPower.wf = true ∧ lookupEntry withGridPower.regMap 0x8174 = none
      ∧ lookupEntry withGridPower.regMap 0x8173 = some (.single .battSoc false 0 .percent)
      ∧ lookupEntry withGridPower.regMap 0x817F = some (.high .gridP)
      ∧ lookupEntry withGridPower.regMap 0x8180 = some (.low .gridP true 0 .watt) := by
  decide +kernel
/-- An open entry runs in the decoder (R191): high word, then low word, of a negative grid power. -/
theorem test_open_entry_runs :
    (decodeAll [(0x817F, 0xFFFF), (0x8180, 0xFF50)] { State.reset with cfg := withGridPower }).out
      = [.meas .gridP (-176) 0 .watt] := by
  decide +kernel

/-- `SampleRunsItsRow`: a row of the table, and a low-word row with a pending high word and without. -/
theorem witness_sample_row :
    decodeSample State.reset.cfg 33264 0xFF30 = .meterLo 0xFF30 ∧ perGet pendingBoth.pend .curGen = true
      ∧ perGet pendingBoth.pend .gridP = false := by decide

/-- `SamplesOfAPayload`: the first and the last sample of the longest payload. -/
theorem witness_samples : 0 < (List.replicate 255 (0 : Byte)).length / 2 ∧ 126 < (List.replicate 255 (0 : Byte)).length / 2 := by
  decide +kernel

/-- `PairJoinsAcrossOtherSamples`. -/
theorem witness_pair :
    Config.default.wf = true ∧ lookupEntry Config.default.regMap 33263 = some (.high .meterTotalP)
      ∧ lookupEntry Config.default.regMap (33263 + 1) = some (.low .meterTotalP true (-3) .kilowatt)
      ∧ (∀ p ∈ [((33057 : Half), (0 : Half)), (33139, 15)], p.1 ≠ 33263 ∧ p.1 ≠ 33263 + 1) ∧ Q32.curGen ≠ Q32.meterTotalP :=
  ⟨by decide +kernel, by decide, by decide, by simp, by decide⟩

/-- `FailureEntry`: each cause, each branch. -/
theorem witness_failure_entry :
    ((∃ ph len need, FailInfo.shortRead .reqBody 4 4 = .shortRead ph len need ∧ Cause.shortRead = .shortRead)
        ∧ (∃ c r, FailInfo.checksumMismatch 0x00AA 0xC0FB = .checksumMismatch c r ∧ Cause.checksumMismatch = .checksumMismatch)
        ∧ ∃ f, FailInfo.unsupportedFunction 0x83 = .unsupportedFunction f ∧ Cause.unsupportedFunction = .unsupportedFunction)
      ∧ (live State.reset).cfg.isLive = true ∧ State.reset.cfg.isLive = false :=
  ⟨⟨⟨_, _, _, rfl, rfl⟩, ⟨_, _, rfl, rfl⟩, ⟨_, rfl, rfl⟩⟩, rfl, rfl⟩

/-- `ShortInsideFrame`, on a live link and on a capture. -/
theorem witness_short_inside :
    (live (collected .rspBody [0x01, 0x04, 0x04] 6 [.short])).cfg.wf = true
      ∧ (live (collected .rspBody [0x01, 0x04, 0x04] 6 [.short])).ph ∈ [Phase.reqPrefix, .reqBody, .rspBc, .rspExc, .rspBody]
      ∧ (live (collected .rspBody [0x01, 0x04, 0x04] 6 [.short])).inp = .short :: []
      ∧ (collected .reqPrefix [0x01, 0x10] 5 [.short]).cfg.wf = true
      ∧ (collected .reqPrefix [0x01, 0x10] 5 [.short]).ph ∈ [Phase.reqPrefix, .reqBody, .rspBc, .rspExc, .rspBody]
      ∧ (collected .reqPrefix [0x01, 0x10] 5 [.short]).inp = .short :: [] := by
  decide +kernel

/-- `ShortInSearchHalts` and `HardErrorHalts`. -/
theorem witness_search_ends :
    (collected .reqSyncId [] 0 [.short]).cfg.wf = true
      ∧ (collected .reqSyncId [] 0 [.short]).ph ∈ [Phase.reqSyncId, .reqSyncFn, .rspSyncId, .rspSyncFn]
      ∧ (collected .reqSyncId [] 0 [.short]).inp = .short :: [] ∧ (collected .resync [] 0 [.ioErr]).ph ≠ .halted
      ∧ (collected .resync [] 0 [.ioErr]).inp = .ioErr :: [] := by
  decide +kernel

/-- `QuietReturnsFromFailure`: its hypotheses, and the step that its second clause speaks of. -/
theorem witness_quiet :
    (live (collected .resync [] 0 [.quiet])).cfg.wf = true ∧ (live (collected .resync [] 0 [.quiet])).ph = .resync
      ∧ (live (collected .resync [] 0 [.quiet])).inp = .quiet :: [] := by
  decide +kernel
theorem witness_quiet_step :
    ∃ t, step (live (collected .resync [] 0 [.quiet])) = .next t
      ∧ (live (collected .resync [] 0 [.quiet])).ph.mode = .resyncing ∧ t.ph.mode = .synced := by
  obtain ⟨t, h1, h2⟩ := nextIs_exists (o := step (live (collected .resync [] 0 [.quiet])))
    (p := fun t => decide (t.ph.mode = .synced)) (by decide +kernel)
  exact ⟨t, h1, rfl, by simpa using h2⟩

/-- `EventsWithoutEffect`, `HaltedAbsorbsAndResetClears` and `HaltIsFinal`. -/
theorem witness_quiet_events :
    (live (collected .resync [] 0 [.byte 0x01])).cfg.wf = true ∧ (live (collected .resync [] 0 [.byte 0x01])).ph = .resync
      ∧ (live (collected .resync [] 0 [.byte 0x01])).inp = .byte 0x01 :: []
      ∧ (live (collected .resync [] 0 [.short])).inp = .short :: [] ∧ (collected .rspBc [0x01, 0x04] 0 [.quiet]).ph ≠ .resync
      ∧ (collected .rspBc [0x01, 0x04] 0 [.quiet]).inp = .quiet :: [] := by
  decide +kernel
theorem witness_halted :
    (collected .halted [] 0 [.byte 0x01, .ioErr, .reset]).cfg.wf = true
      ∧ (collected .halted [] 0 [.byte 0x01, .ioErr, .reset]).ph = .halted
      ∧ [InEvent.byte 0x01, .ioErr] ≠ [] ∧ InEvent.reset ∉ [InEvent.byte 0x01, .ioErr]
      ∧ (collected .halted [] 0 [.byte 0x01, .ioErr, .reset]).inp = [InEvent.byte 0x01, .ioErr] ++ [.reset]
      ∧ InEvent.byte 0x01 ≠ .reset ∧ (collected .halted [] 0 [.reset]).inp = .reset :: [] := by
  decide +kernel

/-- `WaitingAndRefusal`, both clauses. -/
theorem witness_waiting :
    State.reset.cfg.wf = true ∧ State.reset.inp = []
      ∧ ({ State.reset with cfg := { Config.default with fcRsid := 4 } } : State).cfg.wf = false := by
  decide +kernel

/-- The state of `witness_request_body_last` meets the frame invariant. -/
theorem witness_frame_inv_request : FrameInv (lacking .reqBody request) :=
  ⟨by decide +kernel, bufferHeld_cellsFrom rfl rfl (by decide), .inl ⟨by decide, rfl, by decide, by decide, by decide⟩,
    ⟨fun _ => by decide, fun _ => ⟨by decide, by decide⟩⟩, fun h => absurd h (by decide)⟩

/-- The state of `witness_response_body_last` meets the frame invariant. -/
theorem witness_frame_inv_response : FrameInv (answering .rspBody response) :=
  ⟨by decide +kernel, bufferHeld_cellsFrom (bytes := response.dropLast) rfl rfl (by decide),
    ⟨by decide, 0x04, by decide, by decide, by decide, by decide⟩,
    ⟨fun _ => by decide, fun _ => ⟨by decide, by decide⟩⟩, fun _ => by decide⟩

/-- `FrameInvariantKept`, `StepNeverStops`, `RequestRegistersWriter`: a step that writes `req_fn` and `req_addr`. -/
theorem witness_request_step :
    FrameInv (lacking .reqBody request)
      ∧ ∃ t, step (lacking .reqBody request) = .next t ∧ t.reqFn ≠ (lacking .reqBody request).reqFn
        ∧ t.reqAddr ≠ (lacking .reqBody request).reqAddr := by
  obtain ⟨t, h1, h2⟩ := nextIs_exists (o := step (lacking .reqBody request))
    (p := fun t => decide (t.reqFn ≠ 0 ∧ t.reqAddr ≠ 0)) (by decide +kernel)
  exact ⟨witness_frame_inv_request, t, h1, of_decide_eq_true h2⟩

/-- `PhaseMovesOnlyAlongItsTable`: the same state's step goes from `REQ_BODY` to the search for the response. -/
theorem witness_phase_move :
    FrameInv (lacking .reqBody request) ∧ (lacking .reqBody request).inp = [.byte 0xFD]
      ∧ ∃ t, step (lacking .reqBody request) = .next t ∧ t.ph ≠ (lacking .reqBody request).ph := by
  obtain ⟨t, h1, h2⟩ := nextIs_exists (o := step (lacking .reqBody request))
    (p := fun t => decide (t.ph ≠ .reqBody)) (by decide +kernel)
  exact ⟨witness_frame_inv_request, by decide, t, h1, of_decide_eq_true h2⟩

/-- `MeasurementsOnlyFromValidResponses`: a step that emits a measurement. -/
theorem witness_measurement_step :
    FrameInv (answering .rspBody response)
      ∧ ∃ t, step (answering .rspBody response) = .next t ∧ ∃ e ∈ t.out, fromDecoder e = true := by
  obtain ⟨t, h1, h2⟩ := nextIs_exists (o := step (answering .rspBody response))
    (p := fun t => t.out.any fromDecoder) (by decide +kernel)
  exact ⟨witness_frame_inv_response, t, h1, List.any_eq_true.mp h2⟩

/-- `AccumulatorsOutliveFailures`: a step that changes the accumulator file, by `Reset`. -/
theorem witness_accumulator_step :
    FrameInv { State.reset with acc := { State.reset.acc with gridP := 0x10000 }, inp := [.reset] }
      ∧ ∃ t, step { State.reset with acc := { State.reset.acc with gridP := 0x10000 }, inp := [.reset] } = .next t
        ∧ t.acc ≠ { State.reset.acc with gridP := 0x10000 } := by
  obtain ⟨t, h1, h2⟩ := nextIs_exists
    (o := step { State.reset with acc := { State.reset.acc with gridP := 0x10000 }, inp := [.reset] })
    (p := fun t => decide (t.acc ≠ { State.reset.acc with gridP := 0x10000 })) (by decide +kernel)
  refine ⟨⟨by decide +kernel, bufferHeld_cellsFrom (bytes := []) rfl rfl (by decide), ⟨rfl, rfl⟩, ?_, ?_⟩, t, h1, of_decide_eq_true h2⟩
  · exact ⟨fun h => absurd h (by decide), fun h => absurd h (by decide)⟩
  · exact fun h => absurd h (by decide)

/-- `AccumulatorInvariantKept`: a state with pending words, and its step. -/
theorem witness_accumulator_inv :
    AccInv { pendingBoth with inp := [.byte 0xFF] } ∧ ∃ t, step { pendingBoth with inp := [.byte 0xFF] } = .next t := by
  obtain ⟨t, h1, _⟩ := nextIs_exists (o := step { pendingBoth with inp := [.byte 0xFF] }) (p := fun _ => true) (by decide +kernel)
  exact ⟨fun q => by cases q <;> exact ⟨by decide, by decide⟩, t, h1⟩

/-- `StatusInvariantKept`, `CaptureNeverWaits`, `FailureEndsItsStep`, `OutputIsBounded`, `ConfigurationConstant`: a capture whose step
fails. -/
theorem witness_failing_step :
    StatusInv (lacking .reqSyncFn [0x01, 0x83]) ∧ (lacking .reqSyncFn [0x01, 0x83]).cfg.isLive = false
      ∧ ∃ t, step (lacking .reqSyncFn [0x01, 0x83]) = .next t
        ∧ .fail .unsupportedFunction (.unsupportedFunction 0x83) ∈ t.out := by
  obtain ⟨t, h1, h2⟩ := nextIs_exists (o := step (lacking .reqSyncFn [0x01, 0x83]))
    (p := fun t => decide (.fail .unsupportedFunction (.unsupportedFunction 0x83) ∈ t.out)) (by decide +kernel)
  exact ⟨by unfold StatusInv; decide, rfl, t, h1, of_decide_eq_true h2⟩

/-- `LiveRunGoesOn`: a short read inside a frame. -/
theorem witness_live_step :
    (live (collected .reqBody [0x01, 0x04] 6 [.short])).cfg.isLive = true
      ∧ (live (collected .reqBody [0x01, 0x04] 6 [.short])).ph ≠ .halted
      ∧ (live (collected .reqBody [0x01, 0x04] 6 [.short])).inp = .short :: []
      ∧ platformMay (live (collected .reqBody [0x01, 0x04] 6 [.short])) .short = true ∧ InEvent.short ≠ .ioErr
      ∧ ∃ t, step (live (collected .reqBody [0x01, 0x04] 6 [.short])) = .next t := by
  obtain ⟨t, h1, _⟩ := nextIs_exists (o := step (live (collected .reqBody [0x01, 0x04] 6 [.short]))) (p := fun _ => true)
    (by decide +kernel)
  exact ⟨rfl, by decide, rfl, by decide, by decide, t, h1⟩

end Sys2Proof.Tests
end

/-! # The checksum of a complete frame (40_crc16.md R104)

A frame that decodes whole is `frameOf` of a function byte, a body and a CRC, as the format it was read by says, and that row's
completion notes the checksum of exactly those bytes. `ReportsCrc` is the one statement that both halves meet in. -/

namespace Sys2Proof

/-! ### What each format reads, byte for byte (R77, R78, R79, R81) -/

/-- The bytes that end a frame: its CRC, the low byte first (20_memory.md R62). -/
def crcBytes (crc : Half) : List Byte := [loByte crc, hiByte crc]

theorem frameOf_eq (cfg : Config) (f : Byte) (body : List Byte) (crc : Half) :
    frameOf cfg f body crc = cfg.expectedSlave :: f :: (body ++ crcBytes crc) := rfl

theorem crcBytes_joinBytes (ch cl : Byte) : crcBytes (joinBytes ch cl) = [cl, ch] := by
  simp [crcBytes]

/-- A byte count with more bytes after those it counts: the counted bytes are written as a normal body, then come the CRC and the rest. -/
theorem counted_eq {bc cl ch : Byte} {body rest : List Byte} (h : body.drop bc.toNat = cl :: ch :: rest) :
    bc :: body = normalBody (body.take bc.toNat) ++ crcBytes (joinBytes ch cl) ++ rest := by
  have hlen := congrArg List.length h
  simp only [List.length_drop, List.length_cons] at hlen
  have hcount : (body.take bc.toNat).length = bc.toNat := List.length_take_of_le (by omega)
  have hsplit : body.take bc.toNat ++ cl :: ch :: rest = body := h ▸ List.take_append_drop ..
  simp only [normalBody, hcount, BitVec.ofNat_toNat, BitVec.setWidth_eq, crcBytes_joinBytes, List.append_assoc, List.cons_append,
    List.nil_append, hsplit]

theorem varBody_eq (addr q : Half) (data : List Byte) :
    varBody addr q data = hiByte addr :: loByte addr :: hiByte q :: loByte q :: normalBody data := rfl

theorem decodeFixed_ok {mk : Half → Byte → Byte → Half → Instr} {body rest : List Byte} {i : Instr}
    (h : decodeFixed mk body = .ok (i, rest)) :
    ∃ addr p2 p3 crc, i = mk addr p2 p3 crc ∧ body = fixedBody addr p2 p3 ++ crcBytes crc ++ rest := by
  unfold decodeFixed at h
  split at h
  · next ah al p2 p3 cl ch tail =>
    obtain ⟨rfl, rfl⟩ : mk (joinBytes ah al) p2 p3 (joinBytes ch cl) = i ∧ tail = rest := by simpa using h
    exact ⟨joinBytes ah al, p2, p3, joinBytes ch cl, rfl, by simp [fixedBody, crcBytes_joinBytes]⟩
  · cases h

theorem decodeVar_ok {mk : Half → Half → List Byte → Half → Instr} {body rest : List Byte} {i : Instr}
    (h : decodeVar mk body = .ok (i, rest)) :
    ∃ addr q data crc, i = mk addr q data crc ∧ body = varBody addr q data ++ crcBytes crc ++ rest := by
  unfold decodeVar at h
  split at h
  · next ah al qh ql bc counted =>
    split at h
    · next cl ch tail hdrop =>
      obtain ⟨rfl, rfl⟩ :
          mk (joinBytes ah al) (joinBytes qh ql) (counted.take bc.toNat) (joinBytes ch cl) = i ∧ tail = rest := by
        simpa using h
      exact ⟨_, _, _, _, rfl, by rw [counted_eq hdrop]; simp [varBody_eq]⟩
    · cases h
  · cases h

theorem decodeNormal_ok {mk : List Byte → Half → Instr} {body rest : List Byte} {i : Instr}
    (h : decodeNormal mk body = .ok (i, rest)) :
    ∃ payload crc, i = mk payload crc ∧ body = normalBody payload ++ crcBytes crc ++ rest := by
  unfold decodeNormal at h
  split at h
  · next bc counted =>
    split at h
    · next cl ch tail hdrop =>
      obtain ⟨rfl, rfl⟩ : mk (counted.take bc.toNat) (joinBytes ch cl) = i ∧ tail = rest := by simpa using h
      exact ⟨_, _, rfl, counted_eq hdrop⟩
    · cases h
  · cases h

theorem decodeException_ok {mk : Byte → Half → Instr} {body rest : List Byte} {i : Instr}
    (h : decodeException mk body = .ok (i, rest)) :
    ∃ err crc, i = mk err crc ∧ body = [err] ++ crcBytes crc ++ rest := by
  unfold decodeException at h
  split at h
  · next err cl ch tail =>
    obtain ⟨rfl, rfl⟩ : mk err (joinBytes ch cl) = i ∧ tail = rest := by simpa using h
    exact ⟨err, joinBytes ch cl, rfl, by simp [crcBytes_joinBytes]⟩
  · cases h

/-! ### Which format a position's function byte selects (R80, R82) -/

/-- A request-position instruction is one of the two layouts, or it ends with its header. -/
theorem decodeRequest_ok {cfg : Config} {bytes rest : List Byte} {i : Instr} (h : decodeRequest cfg bytes = .ok (i, rest)) :
    ∃ f body, bytes = cfg.expectedSlave :: f :: body
      ∧ ((∃ mk, fixedRequest f = some mk ∧ decodeFixed mk body = .ok (i, rest))
        ∨ (∃ mk, varRequest f = some mk ∧ decodeVar mk body = .ok (i, rest))
        ∨ body = rest) := by
  unfold decodeRequest at h
  split at h
  · next slave f body =>
    split at h
    · next hslave =>
      refine ⟨f, body, by rw [hslave], ?_⟩
      split at h
      · unfold decodeRequestBody at h
        split at h
        · next mk hmk => exact .inl ⟨mk, hmk, h⟩
        · split at h
          · next mk hmk => exact .inr (.inl ⟨mk, hmk, h⟩)
          · split at h
            · cases h; exact .inr (.inr rfl)
            · cases h
      · cases h; exact .inr (.inr rfl)
    · cases h
  · cases h

/-- A response-position instruction is a normal or an exception response, or it ends with its header. -/
theorem decodeResponse_ok {cfg : Config} {bytes rest : List Byte} {i : Instr} (h : decodeResponse cfg bytes = .ok (i, rest)) :
    ∃ f body, bytes = cfg.expectedSlave :: f :: body
      ∧ ((∃ mk, normalResponse cfg f = some mk ∧ decodeNormal mk body = .ok (i, rest))
        ∨ (∃ mk, exceptionResponse cfg f = some mk ∧ decodeException mk body = .ok (i, rest))
        ∨ body = rest) := by
  unfold decodeResponse at h
  split at h
  · next slave f body =>
    split at h
    · next hslave =>
      refine ⟨f, body, by rw [hslave], ?_⟩
      split at h
      · unfold decodeResponseBody at h
        split at h
        · next mk hmk => exact .inl ⟨mk, hmk, h⟩
        · split at h
          · next mk hmk => exact .inr (.inl ⟨mk, hmk, h⟩)
          · cases h
      · cases h; exact .inr (.inr rfl)
    · cases h
  · cases h

end Sys2Proof

namespace Sys2Proof.Machine

/-! ### The two parts of a whole frame (40_crc16.md R104, R105) -/

theorem coveredBytes_frameOf (cfg : Config) (f : Byte) (body : List Byte) (crc : Half) :
    coveredBytes (frameOf cfg f body crc) = cfg.expectedSlave :: f :: body := by
  simp [coveredBytes, frameOf]

theorem receivedCrc_frameOf (cfg : Config) (f : Byte) (body : List Byte) (crc : Half) :
    receivedCrc (frameOf cfg f body crc) = crc := by
  simp [receivedCrc, frameOf]

/-! ### Which completion a selected row runs -/

theorem exec_fixedRequest {f : Byte} {mk : Half → Byte → Byte → Half → Instr} (h : fixedRequest f = some mk)
    (addr : Half) (p2 p3 : Byte) (crc : Half) (s : State) :
    exec (mk addr p2 p3 crc) s = .next (completeFixed f addr p2 p3 crc s) := by
  unfold fixedRequest at h
  split_ifs at h <;> (subst f; cases h; rfl)

theorem exec_varRequest {f : Byte} {mk : Half → Half → List Byte → Half → Instr} (h : varRequest f = some mk)
    (addr q : Half) (data : List Byte) (crc : Half) (s : State) :
    exec (mk addr q data crc) s = .next (completeVar f addr q data crc s) := by
  unfold varRequest at h
  split_ifs at h <;> (subst f; cases h; rfl)

theorem exec_normalResponse {f : Byte} {mk : List Byte → Half → Instr} {s : State} (h : normalResponse s.cfg f = some mk)
    (payload : List Byte) (crc : Half) :
    exec (mk payload crc) s = .next (completeNormal f payload crc s) := by
  unfold normalResponse at h
  split_ifs at h <;> (subst f; cases h; rfl)

theorem exec_exceptionResponse {f : Byte} {mk : Byte → Half → Instr} {s : State} (h : exceptionResponse s.cfg f = some mk)
    (err : Byte) (crc : Half) :
    exec (mk err crc) s = .next (completeException f err crc s) := by
  unfold exceptionResponse at h
  split_ifs at h <;> (subst f; cases h; rfl)

/-! ### What completing a frame reports -/

/-- R104 and R106 for one frame: the two CRC registers are the frame's own, and the first event added says whether they agree. -/
def ReportsCrc (s t : State) (frame : List Byte) : Prop :=
  t.crcCalc = crc16 (coveredBytes frame) ∧ t.crcRx = receivedCrc frame
    ∧ ∃ e more, t.out = s.out ++ e :: more ∧ verdictOf e = some (crcValid t.crcCalc t.crcRx)

/-- What follows the report of a frame: the CRC registers stay, and the output only grows. -/
def KeepsReport (s t : State) : Prop :=
  t.crcCalc = s.crcCalc ∧ t.crcRx = s.crcRx ∧ ∃ more, t.out = s.out ++ more

theorem keepsReport_takeFailure (info : FailInfo) (s : State) : KeepsReport s (takeFailure info s) := by
  obtain ⟨e, hout, _⟩ := takeFailure_out info s
  exact ⟨by simp, by simp, _, hout⟩

theorem keepsReport_startSearch (ph : Phase) (s : State) : KeepsReport s (startSearch ph s) :=
  ⟨rfl, rfl, [], by simp⟩

/-- The hand-over of a valid request (42_request_parser.md R144). -/
theorem keepsReport_handOver (fn : Byte) (addr : Half) (s : State) :
    KeepsReport s (startSearch .rspSyncId { s with reqFn := fn, reqAddr := addr }) :=
  ⟨rfl, rfl, [], by simp⟩

theorem keepsReport_decodeRegister (addr value : Half) (s : State) : KeepsReport s (decodeRegister addr value s) := by
  rcases decodeRegister_cases addr value s with h | ⟨entry, h⟩ <;> rw [h]
  · exact ⟨rfl, rfl, [], by simp⟩
  · obtain ⟨_, _, more, hrun, _⟩ := runEntry_cases entry value s
    rw [hrun]
    exact ⟨rfl, rfl, more, rfl⟩

theorem KeepsReport.trans {s t u : State} (hst : KeepsReport s t) (htu : KeepsReport t u) : KeepsReport s u := by
  obtain ⟨hcalc, hrx, more, hout⟩ := hst
  obtain ⟨hcalc', hrx', more', hout'⟩ := htu
  exact ⟨hcalc'.trans hcalc, hrx'.trans hrx, more ++ more', by rw [hout', hout, List.append_assoc]⟩

theorem keepsReport_decodeAll (xs : List (Half × Half)) (s : State) : KeepsReport s (decodeAll xs s) := by
  induction xs generalizing s with
  | nil => exact ⟨rfl, rfl, [], by simp⟩
  | cons p rest ih => exact (keepsReport_decodeRegister p.1 p.2 s).trans (ih _)

/-- A completion that notes the CRC of a frame's bytes, emits its verdict and then keeps that report. -/
theorem reportsCrc_of_keepsReport {s t : State} {f : Byte} {body : List Byte} {c crc : Half} {e : OutEvent}
    (hcalc : crc16 (s.cfg.expectedSlave :: f :: body) = c) (hkeep : KeepsReport (emit e (noteCrc c crc s)) t)
    (hverdict : verdictOf e = some (crcValid c crc)) : ReportsCrc s t (frameOf s.cfg f body crc) := by
  obtain ⟨hc, hr, more, hout⟩ := hkeep
  simp only [emit_crcCalc, noteCrc_crcCalc, emit_crcRx, noteCrc_crcRx, emit_out, noteCrc_out] at hc hr hout
  refine ⟨?_, ?_, e, more, ?_, ?_⟩
  · rw [hc, coveredBytes_frameOf, hcalc]
  · rw [hr, receivedCrc_frameOf]
  · rw [hout, List.append_assoc, List.singleton_append]
  · rw [hc, hr, hverdict]

theorem completeRequest_reportsCrc (fn : Byte) (addr : Half) (bc : Option Byte) (body : List Byte) (crc : Half) (s : State) :
    ReportsCrc s (completeRequest fn addr bc body crc s) (frameOf s.cfg fn body crc) := by
  by_cases h : crc16 (s.cfg.expectedSlave :: fn :: body) = crc
  · rw [completeRequest_valid h]
    exact reportsCrc_of_keepsReport h (keepsReport_handOver ..) (by simp [verdictOf, crcValid])
  · rw [completeRequest_invalid h]
    exact reportsCrc_of_keepsReport rfl (keepsReport_takeFailure _ _) (by simp [verdictOf, crcValid, h])

theorem completeNormal_reportsCrc (fn : Byte) (payload : List Byte) (crc : Half) (s : State) :
    ReportsCrc s (completeNormal fn payload crc s) (frameOf s.cfg fn (normalBody payload) crc) := by
  by_cases h : crc16 (s.cfg.expectedSlave :: fn :: normalBody payload) = crc
  · rw [completeNormal_valid h]
    exact reportsCrc_of_keepsReport h ((keepsReport_decodeAll _ _).trans (keepsReport_startSearch _ _)) (by simp [verdictOf, crcValid])
  · rw [completeNormal_invalid h]
    exact reportsCrc_of_keepsReport rfl (keepsReport_takeFailure _ _) (by simp [verdictOf, crcValid, h])

theorem completeException_reportsCrc (fn err : Byte) (crc : Half) (s : State) :
    ReportsCrc s (completeException fn err crc s) (frameOf s.cfg fn [err] crc) := by
  by_cases h : crc16 [s.cfg.expectedSlave, fn, err] = crc
  · rw [completeException_valid h]
    exact reportsCrc_of_keepsReport h (keepsReport_startSearch _ _) (by simp [verdictOf, crcValid])
  · rw [completeException_invalid h]
    exact reportsCrc_of_keepsReport rfl (keepsReport_takeFailure _ _) (by simp [verdictOf, crcValid, h])

/-! ### Executing a decoded frame -/

/-- A frame of more than a header in request position is completed as the layout it was read by. -/
theorem exec_request_reportsCrc {s : State} {frame : List Byte} {i : Instr} (hlen : 5 ≤ frame.length)
    (h : decodeRequest s.cfg frame = .ok (i, [])) : ∃ t, exec i s = .next t ∧ ReportsCrc s t frame := by
  obtain ⟨f, body, rfl, ⟨mk, hmk, hbody⟩ | ⟨mk, hmk, hbody⟩ | rfl⟩ := decodeRequest_ok h
  · obtain ⟨addr, p2, p3, crc, rfl, rfl⟩ := decodeFixed_ok hbody
    rw [List.append_nil, ← frameOf_eq]
    exact ⟨_, exec_fixedRequest hmk .., completeRequest_reportsCrc ..⟩
  · obtain ⟨addr, q, data, crc, rfl, rfl⟩ := decodeVar_ok hbody
    rw [List.append_nil, ← frameOf_eq]
    exact ⟨_, exec_varRequest hmk .., completeRequest_reportsCrc ..⟩
  · simp at hlen

/-- A frame of more than a header in response position is completed as the layout it was read by. -/
theorem exec_response_reportsCrc {s : State} {frame : List Byte} {i : Instr} (hlen : 5 ≤ frame.length)
    (h : decodeResponse s.cfg frame = .ok (i, [])) : ∃ t, exec i s = .next t ∧ ReportsCrc s t frame := by
  obtain ⟨f, body, rfl, ⟨mk, hmk, hbody⟩ | ⟨mk, hmk, hbody⟩ | rfl⟩ := decodeResponse_ok h
  · obtain ⟨payload, crc, rfl, rfl⟩ := decodeNormal_ok hbody
    rw [List.append_nil, ← frameOf_eq]
    exact ⟨_, exec_normalResponse hmk .., completeNormal_reportsCrc ..⟩
  · obtain ⟨err, crc, rfl, rfl⟩ := decodeException_ok hbody
    rw [List.append_nil, ← frameOf_eq]
    exact ⟨_, exec_exceptionResponse hmk .., completeException_reportsCrc ..⟩
  · simp at hlen

/-- Settles O11: a decoded frame has the shape its format writes, and the completion of that shape notes and reports the CRC of those
very bytes. -/
theorem frameCrcCoversItsBytes : Obligations.FrameCrcCoversItsBytes := by
  intro s d frame i hlen hdecode
  have hreport : ∃ t, exec i s = .next t ∧ ReportsCrc s t frame := by
    cases d with
    | req => exact exec_request_reportsCrc hlen hdecode
    | rsp => exact exec_response_reportsCrc hlen hdecode
  obtain ⟨t, hexec, hcalc, hrx, e, more, hout, hverdict⟩ := hreport
  exact ⟨t, e, more, hexec, hcalc, hrx, hout, hverdict⟩

end Sys2Proof.Machine


/-! # The byte after a response header (43_response_parser.md R157)

The rules for one stored byte, which every byte-reading phase uses, and the whole effect of the phase `RSP_BC`. -/

namespace Sys2Proof.Machine

/-! ### Storing a byte (20_memory.md R56) -/

theorem putByte_of_lt {i : Nat} {b : Byte} {s : State} (hi : i < frameBufferSize) :
    putByte i b s = .next { s with fb := writeByte s.fb i b, len := i + 1 } :=
  if_pos hi

theorem stored_of_fb_eq_writeByte {s t : State} {i : Nat} {b : Byte} (h : t.fb = writeByte s.fb i b) : Stored s t i b := by
  refine ⟨?_, fun a ha => ?_⟩ <;> rw [h]
  · exact readByte_writeByte_same ..
  · exact readByte_writeByte_other _ _ _ _ ha

/-! ### A step that takes a byte (45_transaction_sequencer.md R215, R216) -/

theorem step_byte {s : State} {b : Byte} {rest : List InEvent} (hw : s.cfg.wf = true) (hph : s.ph ≠ .halted)
    (hi : s.inp = .byte b :: rest) : step s = andThen (fetchByte b { s with inp := rest, out := [] }) runFetched :=
  (stepBlock_event hw hi).trans (takeEvent_byte hph)

/-- A fetched byte that does not end its instruction is the whole step. -/
theorem step_byte_of_more {s t : State} {b : Byte} {rest : List InEvent} (hw : s.cfg.wf = true) (hph : s.ph ≠ .halted)
    (hi : s.inp = .byte b :: rest) (hfetch : fetchByte b { s with inp := rest, out := [] } = .next (.more t)) :
    step s = .next t := by
  rw [step_byte hw hph hi, hfetch]
  rfl

/-! ### `RSP_BC` (43_response_parser.md R157, R160, R161) -/

theorem fetchByte_rspBc {s : State} (hph : s.ph = .rspBc) (b : Byte) : fetchByte b s = fetchByteCount b s := by
  simp [fetchByte, hph]

/-- Index 2 always lies in the buffer, so the byte is stored; the exception flag selects what is still to come. -/
theorem fetchByteCount_eq (b : Byte) (s : State) :
    fetchByteCount b s = .next (.more { s with
      fb := writeByte s.fb 2 b
      len := 3
      need := if exceptionFlag s.fn then 2 else b.toNat + 2
      ph := if exceptionFlag s.fn then .rspExc else .rspBody }) := by
  have hindex : 2 < frameBufferSize := by decide
  rw [fetchByteCount, putByte_of_lt hindex, andThen_of_next]
  cases exceptionFlag s.fn <;> rfl

/-- Settles O17: the byte ends no instruction, so the step is the fetch's own effect, and index 2 alone is written. -/
theorem responseThirdByte : Obligations.ResponseThirdByte := by
  intro s b rest hw hph hi
  have hrunning : s.ph ≠ .halted := by simp [hph]
  have hfetch := (fetchByte_rspBc (s := { s with inp := rest, out := [] }) hph b).trans (fetchByteCount_eq b _)
  exact ⟨_, step_byte_of_more hw hrunning hi hfetch, stored_of_fb_eq_writeByte rfl, rfl⟩

end Sys2Proof.Machine


/-! # The high-word rows and the unmapped row (44_register_decoder.md R186, R190)

The value that a high word leaves in the accumulator file, and what the table selects at an address without an entry. -/

namespace Sys2Proof.Machine

/-! ### A stored high word (R186, R193, R196) -/

/-- A 16-bit value shifted by 16 fits in 32 bits, so the shift is the product. -/
theorem highWord_eq_ofNat (v : Half) : highWord v = BitVec.ofNat 32 (v.toNat * 65536) := by
  have hv : v.toNat < 65536 := v.isLt
  apply BitVec.eq_of_toNat_eq
  simp only [highWord, BitVec.toNat_shiftLeft, BitVec.toNat_setWidth, BitVec.toNat_ofNat, Nat.shiftLeft_eq]
  omega

/-- The model's effect of a high-word entry, with the stored word as the product. -/
theorem runEntry_high (q : Q32) (v : Half) (s : State) :
    runEntry (.high q) v s = setPair q (BitVec.ofNat 32 (v.toNat * 65536)) true s := by
  rw [← highWord_eq_ofNat]
  rfl

theorem exec_curGenHi (v : Half) (s : State) : exec (.curGenHi v) s = .next (runEntry (.high .curGen) v s) := rfl

theorem exec_meterHi (v : Half) (s : State) : exec (.meterHi v) s = .next (runEntry (.high .meterTotalP) v s) := rfl

/-- Settles O29: both rows run the high-word entry of their quantity, which sets that quantity's pair and nothing else. -/
theorem highWordRows : Obligations.HighWordRows := by
  intro s v
  constructor
  · rw [exec_curGenHi, runEntry_high]
    rfl
  · rw [exec_meterHi, runEntry_high]
    rfl

/-! ### An address without an entry (R184, R190) -/

theorem exec_unmapped (addr v : Half) (s : State) : exec (.unmapped addr v) s = .next s := rfl

theorem regRow_of_lookupEntry_none {cfg : Config} {addr : Half} (h : lookupEntry cfg.regMap addr = none) :
    regRow cfg addr = .unmapped := by
  simp only [regRow, h]

theorem decodeRegister_of_lookupEntry_none {addr : Half} {s : State} (h : lookupEntry s.cfg.regMap addr = none) (v : Half) :
    decodeRegister addr v s = s := by
  rw [decodeRegister, regRow_of_lookupEntry_none h]
  rfl

/-- Settles O31: the row's effect is the identity, and an address without an entry selects that row. -/
theorem unmappedSampleIgnored : Obligations.UnmappedSampleIgnored := by
  intro s addr v
  exact ⟨exec_unmapped addr v s, fun h => decodeRegister_of_lookupEntry_none h v⟩

end Sys2Proof.Machine


/-! # The return from a failure (60_exceptions.md R264)

What each event does in `RESYNC`: after a byte or `Short` the phase is still `RESYNC`, and `IoErr` is a failure again, so only
`Quiet` and `Reset` lead to a parsing phase. -/

namespace Sys2Proof.Machine

theorem eq_resync_of_mode_eq_resyncing {p : Phase} (h : p.mode = .resyncing) : p = .resync := by
  cases p
  case resync => rfl
  all_goals cases h

/-! ### The events in `RESYNC` (45_transaction_sequencer.md R215) -/

section
variable {s : State} (hph : s.ph = .resync)
include hph

theorem takeEvent_quiet_resync : takeEvent .quiet s = .next (returnFromFailure s) := by
  simp [takeEvent, onQuiet, hph]

theorem takeEvent_byte_resync (b : Byte) : takeEvent (.byte b) s = .next (emit .quietArm s) := by
  have hrunning : s.ph ≠ .halted := by simp [hph]
  have hfetch : fetchByte b s = .next (.more (emit .quietArm s)) := by simp [fetchByte, hph]
  rw [takeEvent_byte hrunning, hfetch]
  rfl

theorem takeEvent_short_resync : takeEvent .short s = .next s := by
  simp [takeEvent, onShort, hph]

theorem takeEvent_ioErr_resync : takeEvent .ioErr s = .next (takeFailure (.ioError s.ph) s) := by
  simp [takeEvent, onIoErr, hph]

end

/-! ### What leads to a parsing phase (R257, R264) -/

/-- Failure entry leaves the block resyncing or halted. -/
theorem takeFailure_mode_ne_synced (info : FailInfo) (s : State) : (takeFailure info s).ph.mode ≠ .synced := by
  obtain h | h := takeFailure_ph info s <;> simp [h, Phase.mode]

theorem takeEvent_resync_synced {s t : State} {ev : InEvent} (hph : s.ph = .resync) (ht : takeEvent ev s = .next t)
    (hsynced : t.ph.mode = .synced) : ev = .quiet ∨ ev = .reset := by
  cases ev with
  | quiet => exact .inl rfl
  | reset => exact .inr rfl
  | byte b =>
    rw [takeEvent_byte_resync hph] at ht
    cases ht
    simp [hph, Phase.mode] at hsynced
  | short =>
    rw [takeEvent_short_resync hph] at ht
    cases ht
    simp [hph, Phase.mode] at hsynced
  | ioErr =>
    rw [takeEvent_ioErr_resync hph] at ht
    cases ht
    exact absurd hsynced (takeFailure_mode_ne_synced _ s)

/-- A step that answers a state waited, or took the next event. -/
theorem step_next {s t : State} (h : step s = .next t) :
    (s.inp = [] ∧ t = { s with out := [] }) ∨
      ∃ ev rest, s.inp = ev :: rest ∧ takeEvent ev { s with inp := rest, out := [] } = .next t := by
  unfold step stepBlock at h
  split at h
  · split at h
    next hnil => cases h; exact .inl ⟨hnil, rfl⟩
    next ev rest hi => exact .inr ⟨ev, rest, hi, h⟩
  · cases h

/-- Settles O41: `Quiet` in `RESYNC` is the return R264 writes out; a step that waits stays in `RESYNC`, and of the events only
`Quiet` and `Reset` lead to a parsing phase. -/
theorem quietReturnsFromFailure : Obligations.QuietReturnsFromFailure := by
  constructor
  · intro s rest hw hph hi
    exact (stepBlock_event hw hi).trans (takeEvent_quiet_resync hph)
  · intro s t hstep hmode hsynced
    have hph : s.ph = .resync := eq_resync_of_mode_eq_resyncing hmode
    obtain ⟨-, rfl⟩ | ⟨ev, rest, hi, ht⟩ := step_next hstep
    · simp [hph, Phase.mode] at hsynced
    · obtain rfl | rfl := takeEvent_resync_synced (s := { s with inp := rest, out := [] }) hph ht hsynced
      · exact ⟨rest, .inl hi⟩
      · exact ⟨rest, .inr hi⟩

end Sys2Proof.Machine

/-! # The frames of each position, by format (30_encoding.md R75 to R82, R85)

`RequestFrame` and `ResponseFrame` say which bytes stand for which instruction. Each is tied to the encoder and to the decoder by an
equivalence, and both directions of the round trip, in both positions, are the two equivalences composed. -/

namespace Sys2Proof

/-! ### The known function codes and the exception flag (00_scope.md R11, R76, R82) -/

theorem fcRsid_of_wf {cfg : Config} (hcfg : cfg.wf = true) :
    cfg.fcRsid.toNat ≤ 127 ∧ cfg.fcRsid ∉ ([1, 2, 3, 4, 5, 6, 15, 16] : List Byte) := by
  simpa [Config.wf, fcRsidOk] using (Bool.and_eq_true_iff.mp hcfg).2

theorem functionCode_of_le {c : Byte} (hc : c.toNat ≤ 127) : functionCode c = c := by
  have h : ∀ c : Byte, c.toNat ≤ 127 → functionCode c = c := by decide +kernel
  exact h c hc

theorem functionCode_flagged {c : Byte} (hc : c.toNat ≤ 127) : functionCode (0x80 ||| c) = c := by
  have h : ∀ c : Byte, c.toNat ≤ 127 → functionCode (0x80 ||| c) = c := by decide +kernel
  exact h c hc

theorem exceptionFlag_of_le {c : Byte} (hc : c.toNat ≤ 127) : exceptionFlag c = false := by
  have h : ∀ c : Byte, c.toNat ≤ 127 → exceptionFlag c = false := by decide +kernel
  exact h c hc

theorem exceptionFlag_flagged (c : Byte) : exceptionFlag (0x80 ||| c) = true := by
  simp [exceptionFlag]

/-- A function byte is its code, or its code with the exception flag. -/
theorem eq_functionCode_or_flagged (f : Byte) : f = functionCode f ∨ f = 0x80 ||| functionCode f := by
  have h : ∀ f : Byte, f = functionCode f ∨ f = 0x80 ||| functionCode f := by decide +kernel
  exact h f

theorem knownFn_le {cfg : Config} (hcfg : cfg.wf = true) {c : Byte} (hc : c ∈ knownFn cfg) : c.toNat ≤ 127 := by
  obtain ⟨hle, -⟩ := fcRsid_of_wf hcfg
  simp only [knownFn, List.mem_cons, List.not_mem_nil, or_false] at hc
  rcases hc with rfl | rfl | rfl | rfl | rfl | rfl | rfl | rfl | rfl
  case inr.inr.inr.inr.inr.inr.inr.inr => exact hle
  all_goals decide

/-- R82: what passes the synchroniser is a known code, with or without the exception flag. -/
theorem syncAccept_iff {cfg : Config} (hcfg : cfg.wf = true) (f : Byte) :
    syncAccept cfg f = true ↔ f ∈ knownFn cfg ∨ f ∈ (knownFn cfg).map (0x80 ||| ·) := by
  rw [syncAccept, decide_eq_true_iff, List.mem_map]
  constructor
  · intro h
    rcases eq_functionCode_or_flagged f with hf | hf
    · exact .inl (hf ▸ h)
    · exact .inr ⟨_, h, hf.symm⟩
  · rintro (h | ⟨c, h, rfl⟩)
    · rwa [functionCode_of_le (knownFn_le hcfg h)]
    · rwa [functionCode_flagged (knownFn_le hcfg h)]

/-- A code with the exception flag is no plain code. -/
theorem flagged_ne {c d : Byte} (hd : d.toNat ≤ 127) : (0x80 : Byte) ||| c ≠ d := by
  intro h
  have hflag := exceptionFlag_flagged c
  rw [h, exceptionFlag_of_le hd] at hflag
  cases hflag

/-- The exception flag is lost in no pair of codes. -/
theorem flagged_ne_flagged {c d : Byte} (hc : c.toNat ≤ 127) (hd : d.toNat ≤ 127) (h : c ≠ d) : (0x80 : Byte) ||| c ≠ 0x80 ||| d := by
  intro he
  rw [← functionCode_flagged hc, he, functionCode_flagged hd] at h
  exact h rfl

theorem knownFn_nodup {cfg : Config} (hcfg : cfg.wf = true) : (knownFn cfg).Nodup := by
  obtain ⟨-, hmem⟩ := fcRsid_of_wf hcfg
  have h : ([1, 2, 3, 4, 5, 6, 15, 16] ++ [cfg.fcRsid] : List Byte).Nodup :=
    List.nodup_append.mpr ⟨by decide, List.nodup_singleton _, by rintro a ha b hb rfl; exact hmem (List.mem_singleton.mp hb ▸ ha)⟩
  exact h

/-- The function bytes that pass the synchroniser, without repetition. -/
theorem nodup_accepted {cfg : Config} (hcfg : cfg.wf = true) : (knownFn cfg ++ (knownFn cfg).map (0x80 ||| ·)).Nodup := by
  refine List.nodup_append.mpr ⟨knownFn_nodup hcfg, ?_, ?_⟩
  · refine (knownFn_nodup hcfg).map_on fun c hc d hd h => ?_
    exact not_not.mp fun hne => flagged_ne_flagged (knownFn_le hcfg hc) (knownFn_le hcfg hd) hne h
  · rintro a ha b hb rfl
    obtain ⟨c, -, h⟩ := List.mem_map.mp hb
    exact flagged_ne (knownFn_le hcfg ha) h

/-- Settles O6: the 256 numbers that pass are, up to order, the nine known codes and the nine with the exception flag. -/
theorem eighteenFunctionBytesPass : Obligations.EighteenFunctionBytesPass := by
  intro cfg hcfg
  have hperm : ((List.range 256).filter fun n => syncAccept cfg (BitVec.ofNat 8 n)).Perm
      ((knownFn cfg ++ (knownFn cfg).map (0x80 ||| ·)).map BitVec.toNat) := by
    refine (List.perm_ext_iff_of_nodup (List.nodup_range.filter _) ?_).mpr fun n => ?_
    · exact (nodup_accepted hcfg).map BitVec.toNat_injective
    · simp only [List.mem_filter, List.mem_range, syncAccept_iff hcfg, ← List.mem_append]
      constructor
      · rintro ⟨hn, h⟩
        exact List.mem_map.mpr ⟨_, h, by simpa using hn⟩
      · intro h
        obtain ⟨f, hf, rfl⟩ := List.mem_map.mp h
        exact ⟨f.isLt, by simpa using hf⟩
  rw [hperm.length_eq]
  rfl

/-! ### Which bytes select a row (R80, R82) -/

theorem fixedRequest_eq_some {f : Byte} {mk : Half → Byte → Byte → Half → Instr} (h : fixedRequest f = some mk) :
    f ∈ ([1, 2, 3, 4, 5, 6] : List Byte) := by
  unfold fixedRequest at h
  split_ifs at h <;> (subst f; decide)

theorem fixedRequest_of_mem {f : Byte} (h : f ∈ ([1, 2, 3, 4, 5, 6] : List Byte)) : ∃ mk, fixedRequest f = some mk := by
  simp only [List.mem_cons, List.not_mem_nil, or_false] at h
  rcases h with rfl | rfl | rfl | rfl | rfl | rfl <;> exact ⟨_, rfl⟩

theorem varRequest_eq_some {f : Byte} {mk : Half → Half → List Byte → Half → Instr} (h : varRequest f = some mk) :
    f ∈ ([15, 16] : List Byte) := by
  unfold varRequest at h
  split_ifs at h <;> (subst f; decide)

theorem varRequest_of_mem {f : Byte} (h : f ∈ ([15, 16] : List Byte)) : ∃ mk, varRequest f = some mk := by
  simp only [List.mem_cons, List.not_mem_nil, or_false] at h
  rcases h with rfl | rfl <;> exact ⟨_, rfl⟩

/-- The function bytes of a header without a request layout (R139, R140). -/
def bareFns (cfg : Config) : List Byte := cfg.fcRsid :: (knownFn cfg).map (0x80 ||| ·)

theorem bareRequest_eq_some {cfg : Config} {f : Byte} {i : Instr} (h : bareRequest cfg f = some i) : f ∈ bareFns cfg := by
  unfold bareRequest at h
  split_ifs at h <;> (subst f; simp [bareFns, knownFn])

theorem normalResponse_eq_some {cfg : Config} {f : Byte} {mk : List Byte → Half → Instr} (h : normalResponse cfg f = some mk) :
    f ∈ knownFn cfg := by
  unfold normalResponse at h
  split_ifs at h <;> (subst f; simp [knownFn])

theorem normalResponse_of_mem {cfg : Config} {f : Byte} (h : f ∈ knownFn cfg) : ∃ mk, normalResponse cfg f = some mk := by
  unfold normalResponse
  split_ifs <;> simp_all [knownFn]

theorem exceptionResponse_eq_some {cfg : Config} {f : Byte} {mk : Byte → Half → Instr} (h : exceptionResponse cfg f = some mk) :
    f ∈ (knownFn cfg).map (0x80 ||| ·) := by
  unfold exceptionResponse at h
  split_ifs at h <;> (subst f; simp [knownFn])

theorem exceptionResponse_of_mem {cfg : Config} {f : Byte} (h : f ∈ (knownFn cfg).map (0x80 ||| ·)) :
    ∃ mk, exceptionResponse cfg f = some mk := by
  unfold exceptionResponse
  split_ifs <;> simp_all [knownFn]

theorem bareRequest_of_mem {cfg : Config} {f : Byte} (h : f ∈ bareFns cfg) : ∃ i, bareRequest cfg f = some i := by
  unfold bareRequest
  split_ifs <;> simp_all [bareFns, knownFn]

/-- R11: with the exception flag too, `FC_RSID` is none of the other codes. -/
theorem flagged_fcRsid_ne {cfg : Config} (hcfg : cfg.wf = true) :
    ∀ c ∈ ([1, 2, 3, 4, 5, 6, 15, 16] : List Byte), (0x80 : Byte) ||| cfg.fcRsid ≠ 0x80 ||| c := by
  obtain ⟨hle, hmem⟩ := fcRsid_of_wf hcfg
  intro c hc
  exact flagged_ne_flagged hle (knownFn_le hcfg (List.mem_append_left [cfg.fcRsid] hc)) (by rintro rfl; exact hmem hc)

theorem bareRequest_fcRsid {cfg : Config} (hcfg : cfg.wf = true) : bareRequest cfg cfg.fcRsid = some .reqRsid := by
  obtain ⟨hle, -⟩ := fcRsid_of_wf hcfg
  have hne : ∀ d : Byte, 127 < d.toNat → cfg.fcRsid ≠ d := by rintro d hd rfl; omega
  simp [bareRequest, hne]

theorem bareRequest_flagged_fcRsid {cfg : Config} (hcfg : cfg.wf = true) :
    bareRequest cfg (0x80 ||| cfg.fcRsid) = some .reqExcF17 := by
  have hne := flagged_fcRsid_ne hcfg
  have hplain : (0x80 : Byte) ||| cfg.fcRsid ≠ cfg.fcRsid := flagged_ne (fcRsid_of_wf hcfg).1
  simp at hne hplain
  simp [bareRequest, hne, hplain]

theorem normalResponse_fcRsid {cfg : Config} (hcfg : cfg.wf = true) : normalResponse cfg cfg.fcRsid = some .rspF17 := by
  obtain ⟨-, hmem⟩ := fcRsid_of_wf hcfg
  simp at hmem
  simp [normalResponse, hmem]

theorem exceptionResponse_flagged_fcRsid {cfg : Config} (hcfg : cfg.wf = true) :
    exceptionResponse cfg (0x80 ||| cfg.fcRsid) = some .rspxF17 := by
  have hne := flagged_fcRsid_ne hcfg
  simp at hne
  simp [exceptionResponse, hne]

/-! ### No byte selects two formats (R80, R82) -/

theorem fixedRequest_eq_none {f : Byte} (h : f ∉ ([1, 2, 3, 4, 5, 6] : List Byte)) : fixedRequest f = none :=
  Option.eq_none_iff_forall_ne_some.mpr fun _ hmk => h (fixedRequest_eq_some hmk)

theorem varRequest_eq_none {f : Byte} (h : f ∉ ([15, 16] : List Byte)) : varRequest f = none :=
  Option.eq_none_iff_forall_ne_some.mpr fun _ hmk => h (varRequest_eq_some hmk)

/-- A byte with one of the eight request layouts has no bare row. -/
theorem not_mem_bareFns {cfg : Config} (hcfg : cfg.wf = true) {f : Byte} (hf : f ∈ ([1, 2, 3, 4, 5, 6, 15, 16] : List Byte)) :
    f ∉ bareFns cfg := by
  obtain ⟨-, hmem⟩ := fcRsid_of_wf hcfg
  rw [bareFns, List.mem_cons, List.mem_map]
  rintro (rfl | ⟨c, -, h⟩)
  · exact hmem hf
  · exact flagged_ne (knownFn_le hcfg (List.mem_append_left [cfg.fcRsid] hf)) h

theorem normalResponse_eq_none {cfg : Config} (hcfg : cfg.wf = true) {f : Byte} (hf : f ∈ (knownFn cfg).map (0x80 ||| ·)) :
    normalResponse cfg f = none := by
  refine Option.eq_none_iff_forall_ne_some.mpr fun _ hmk => ?_
  obtain ⟨c, -, h⟩ := List.mem_map.mp hf
  exact flagged_ne (knownFn_le hcfg (normalResponse_eq_some hmk)) h

/-! ### The four formats, read back (R77, R78, R79, R81) -/

theorem decodeFixed_fixedBody (mk : Half → Byte → Byte → Half → Instr) (addr : Half) (p2 p3 : Byte) (crc : Half)
    (rest : List Byte) : decodeFixed mk (fixedBody addr p2 p3 ++ crcBytes crc ++ rest) = .ok (mk addr p2 p3 crc, rest) := by
  simp [fixedBody, crcBytes, decodeFixed]

theorem toNat_ofNat_length {data : List Byte} (hlen : data.length ≤ 255) : (BitVec.ofNat 8 data.length).toNat = data.length :=
  Nat.mod_eq_of_lt (by omega)

theorem decodeVar_varBody (mk : Half → Half → List Byte → Half → Instr) (addr q : Half) {data : List Byte} (crc : Half)
    (rest : List Byte) (hlen : data.length ≤ 255) :
    decodeVar mk (varBody addr q data ++ crcBytes crc ++ rest) = .ok (mk addr q data crc, rest) := by
  simp [varBody, crcBytes, decodeVar, toNat_ofNat_length hlen, -BitVec.toNat_ofNat]

theorem decodeNormal_normalBody (mk : List Byte → Half → Instr) {payload : List Byte} (crc : Half) (rest : List Byte)
    (hlen : payload.length ≤ 255) :
    decodeNormal mk (normalBody payload ++ crcBytes crc ++ rest) = .ok (mk payload crc, rest) := by
  simp [normalBody, crcBytes, decodeNormal, toNat_ofNat_length hlen, -BitVec.toNat_ofNat]

theorem decodeException_body (mk : Byte → Half → Instr) (err : Byte) (crc : Half) (rest : List Byte) :
    decodeException mk ([err] ++ crcBytes crc ++ rest) = .ok (mk err crc, rest) := by
  simp [crcBytes, decodeException]

end Sys2Proof

namespace Sys2Proof

/-! ### A counted field has at most 255 bytes (R78, R79) -/

theorem length_take_toNat_le (bc : Byte) (bytes : List Byte) : (bytes.take bc.toNat).length ≤ 255 := by
  have := List.length_take_le bc.toNat bytes
  have := bc.isLt
  omega

theorem decodeVar_ok_le {mk : Half → Half → List Byte → Half → Instr} {body rest : List Byte} {i : Instr}
    (h : decodeVar mk body = .ok (i, rest)) :
    ∃ addr q data crc, data.length ≤ 255 ∧ i = mk addr q data crc ∧ body = varBody addr q data ++ crcBytes crc ++ rest := by
  unfold decodeVar at h
  split at h
  · next ah al qh ql bc counted =>
    split at h
    · next cl ch tail hdrop =>
      cases h
      exact ⟨_, _, _, _, length_take_toNat_le bc counted, rfl, by rw [counted_eq hdrop]; simp [varBody_eq]⟩
    · cases h
  · cases h

theorem decodeNormal_ok_le {mk : List Byte → Half → Instr} {body rest : List Byte} {i : Instr}
    (h : decodeNormal mk body = .ok (i, rest)) :
    ∃ payload crc, payload.length ≤ 255 ∧ i = mk payload crc ∧ body = normalBody payload ++ crcBytes crc ++ rest := by
  unfold decodeNormal at h
  split at h
  · next bc counted =>
    split at h
    · next cl ch tail hdrop =>
      cases h
      exact ⟨_, _, length_take_toNat_le bc counted, rfl, counted_eq hdrop⟩
    · cases h
  · cases h

/-! ### The frames of a position -/

/-- The frames of request position and their instructions: the two layouts, a header without one, and a rejected header (R77, R78,
R119, R139, R140). -/
inductive RequestFrame (cfg : Config) : Instr → List Byte → Prop
  | fixed {f : Byte} {mk} (hmk : fixedRequest f = some mk) (addr : Half) (p2 p3 : Byte) (crc : Half) :
    RequestFrame cfg (mk addr p2 p3 crc) (frameOf cfg f (fixedBody addr p2 p3) crc)
  | var {f : Byte} {mk} (hmk : varRequest f = some mk) (addr q : Half) (data : List Byte) (crc : Half) (hlen : data.length ≤ 255) :
    RequestFrame cfg (mk addr q data crc) (frameOf cfg f (varBody addr q data) crc)
  | bare {f : Byte} {i : Instr} (hi : bareRequest cfg f = some i) : RequestFrame cfg i (bareFrame cfg f)
  | noise {f : Byte} (hf : syncAccept cfg f = false) : RequestFrame cfg (.noiseReq f) (bareFrame cfg f)

/-- The frames of response position and their instructions: a normal response, an exception response, a rejected header (R79, R81,
R119). -/
inductive ResponseFrame (cfg : Config) : Instr → List Byte → Prop
  | normal {f : Byte} {mk} (hmk : normalResponse cfg f = some mk) (payload : List Byte) (crc : Half) (hlen : payload.length ≤ 255) :
    ResponseFrame cfg (mk payload crc) (frameOf cfg f (normalBody payload) crc)
  | exception {f : Byte} {mk} (hmk : exceptionResponse cfg f = some mk) (err : Byte) (crc : Half) :
    ResponseFrame cfg (mk err crc) (frameOf cfg f [err] crc)
  | noise {f : Byte} (hf : syncAccept cfg f = false) : ResponseFrame cfg (.noiseRsp f) (bareFrame cfg f)

/-! ### What is encoded is a frame of its position -/

theorem requestFrame_of_encode {cfg : Config} {i : Instr} {frame : List Byte} (hcfg : cfg.wf = true) (hwf : i.wf cfg = true)
    (h : encode cfg i = .frame .req frame) : RequestFrame cfg i frame := by
  cases i
  case reqF01 | reqF02 | reqF03 | reqF04 | reqF05 | reqF06 => cases h; exact .fixed rfl ..
  case reqF15 | reqF16 => cases h; exact .var rfl _ _ _ _ (of_decide_eq_true hwf)
  case reqRsid => cases h; exact .bare (bareRequest_fcRsid hcfg)
  case reqExcF17 => cases h; exact .bare (bareRequest_flagged_fcRsid hcfg)
  case reqExcF01 | reqExcF02 | reqExcF03 | reqExcF04 | reqExcF05 | reqExcF06 | reqExcF15 | reqExcF16 =>
    cases h; exact .bare rfl
  case noiseReq => cases h; exact .noise (by simpa [Instr.wf] using hwf)
  all_goals cases h

theorem responseFrame_of_encode {cfg : Config} {i : Instr} {frame : List Byte} (hcfg : cfg.wf = true) (hwf : i.wf cfg = true)
    (h : encode cfg i = .frame .rsp frame) : ResponseFrame cfg i frame := by
  cases i
  case rspF01 | rspF02 | rspF03 | rspF04 | rspF05 | rspF06 | rspF15 | rspF16 =>
    cases h; exact .normal rfl _ _ (of_decide_eq_true hwf)
  case rspF17 => cases h; exact .normal (normalResponse_fcRsid hcfg) _ _ (of_decide_eq_true hwf)
  case rspxF01 | rspxF02 | rspxF03 | rspxF04 | rspxF05 | rspxF06 | rspxF15 | rspxF16 => cases h; exact .exception rfl ..
  case rspxF17 => cases h; exact .exception (exceptionResponse_flagged_fcRsid hcfg) ..
  case noiseRsp => cases h; exact .noise (by simpa [Instr.wf] using hwf)
  all_goals cases h

/-! ### A frame of a position is what its instruction is encoded as -/

theorem encode_of_requestFrame {cfg : Config} {i : Instr} {frame : List Byte} (h : RequestFrame cfg i frame) :
    i.wf cfg = true ∧ encode cfg i = .frame .req frame := by
  cases h with
  | fixed hmk => unfold fixedRequest at hmk; split_ifs at hmk <;> (cases hmk; subst_vars; exact ⟨rfl, rfl⟩)
  | var hmk _ _ _ _ hlen =>
    unfold varRequest at hmk; split_ifs at hmk <;> (cases hmk; subst_vars; exact ⟨decide_eq_true hlen, rfl⟩)
  | bare hi => unfold bareRequest at hi; split_ifs at hi <;> (cases hi; subst_vars; exact ⟨rfl, rfl⟩)
  | noise hf => exact ⟨by simp [Instr.wf, hf], rfl⟩

theorem encode_of_responseFrame {cfg : Config} {i : Instr} {frame : List Byte} (h : ResponseFrame cfg i frame) :
    i.wf cfg = true ∧ encode cfg i = .frame .rsp frame := by
  cases h with
  | normal hmk _ _ hlen =>
    unfold normalResponse at hmk; split_ifs at hmk <;> (cases hmk; subst_vars; exact ⟨decide_eq_true hlen, rfl⟩)
  | exception hmk => unfold exceptionResponse at hmk; split_ifs at hmk <;> (cases hmk; subst_vars; exact ⟨rfl, rfl⟩)
  | noise hf => exact ⟨by simp [Instr.wf, hf], rfl⟩

/-! ### What decodes is a frame of its position, and what is left over -/

theorem requestFrame_of_decode {cfg : Config} {bytes rest : List Byte} {i : Instr}
    (h : decodeRequest cfg bytes = .ok (i, rest)) : ∃ frame, RequestFrame cfg i frame ∧ bytes = frame ++ rest := by
  unfold decodeRequest at h
  split at h
  case h_2 => cases h
  next slave f body =>
  split_ifs at h with hslave haccept
  · subst hslave
    unfold decodeRequestBody at h
    split at h
    next mk hmk =>
      obtain ⟨addr, p2, p3, crc, rfl, rfl⟩ := decodeFixed_ok h
      exact ⟨_, .fixed hmk .., by simp [frameOf_eq]⟩
    split at h
    next mk hmk =>
      obtain ⟨addr, q, data, crc, hlen, rfl, rfl⟩ := decodeVar_ok_le h
      exact ⟨_, .var hmk _ _ _ _ hlen, by simp [frameOf_eq]⟩
    split at h
    next hi => cases h; exact ⟨_, .bare hi, rfl⟩
    next => cases h
  · subst hslave
    cases h
    exact ⟨_, .noise (by simpa using haccept), rfl⟩

theorem responseFrame_of_decode {cfg : Config} {bytes rest : List Byte} {i : Instr}
    (h : decodeResponse cfg bytes = .ok (i, rest)) : ∃ frame, ResponseFrame cfg i frame ∧ bytes = frame ++ rest := by
  unfold decodeResponse at h
  split at h
  case h_2 => cases h
  next slave f body =>
  split_ifs at h with hslave haccept
  · subst hslave
    unfold decodeResponseBody at h
    split at h
    next mk hmk =>
      obtain ⟨payload, crc, hlen, rfl, rfl⟩ := decodeNormal_ok_le h
      exact ⟨_, .normal hmk _ _ hlen, by simp [frameOf_eq]⟩
    split at h
    next mk hmk =>
      obtain ⟨err, crc, rfl, rfl⟩ := decodeException_ok h
      exact ⟨_, .exception hmk .., by simp [frameOf_eq]⟩
    next => cases h
  · subst hslave
    cases h
    exact ⟨_, .noise (by simpa using haccept), rfl⟩

/-! ### A frame of a position decodes, whatever follows it -/

theorem decodeRequest_accepted {cfg : Config} {f : Byte} (hf : syncAccept cfg f = true) (body : List Byte) :
    decodeRequest cfg (cfg.expectedSlave :: f :: body) = decodeRequestBody cfg f body := by
  simp [decodeRequest, hf]

theorem decodeResponse_accepted {cfg : Config} {f : Byte} (hf : syncAccept cfg f = true) (body : List Byte) :
    decodeResponse cfg (cfg.expectedSlave :: f :: body) = decodeResponseBody cfg f body := by
  simp [decodeResponse, hf]

/-- The eight function bytes with a request layout are known (R130). -/
theorem syncAccept_of_requestLayout {cfg : Config} (hcfg : cfg.wf = true) {f : Byte}
    (hf : f ∈ ([1, 2, 3, 4, 5, 6, 15, 16] : List Byte)) : syncAccept cfg f = true :=
  (syncAccept_iff hcfg f).mpr (.inl (List.mem_append_left [cfg.fcRsid] hf))

theorem mem_layouts_of_fixed {f : Byte} (h : f ∈ ([1, 2, 3, 4, 5, 6] : List Byte)) :
    f ∈ ([1, 2, 3, 4, 5, 6, 15, 16] : List Byte) := List.mem_append_left [15, 16] h

theorem mem_layouts_of_var {f : Byte} (h : f ∈ ([15, 16] : List Byte)) : f ∈ ([1, 2, 3, 4, 5, 6, 15, 16] : List Byte) :=
  List.mem_append_right [1, 2, 3, 4, 5, 6] h

theorem not_mem_fixed_of_var {f : Byte} (h : f ∈ ([15, 16] : List Byte)) : f ∉ ([1, 2, 3, 4, 5, 6] : List Byte) := by
  simp only [List.mem_cons, List.not_mem_nil, or_false] at h
  rcases h with rfl | rfl <;> decide

theorem syncAccept_of_bare {cfg : Config} (hcfg : cfg.wf = true) {f : Byte} (hf : f ∈ bareFns cfg) : syncAccept cfg f = true := by
  refine (syncAccept_iff hcfg f).mpr ?_
  rcases List.mem_cons.mp hf with rfl | hf
  · exact .inl (by simp [knownFn])
  · exact .inr hf

theorem decodeRequestBody_fixed {cfg : Config} {f : Byte} {mk : Half → Byte → Byte → Half → Instr}
    (hmk : fixedRequest f = some mk) (body : List Byte) : decodeRequestBody cfg f body = decodeFixed mk body := by
  simp [decodeRequestBody, hmk]

theorem decodeRequestBody_var {cfg : Config} {f : Byte} {mk : Half → Half → List Byte → Half → Instr}
    (hmk : varRequest f = some mk) (body : List Byte) : decodeRequestBody cfg f body = decodeVar mk body := by
  simp [decodeRequestBody, hmk, fixedRequest_eq_none (not_mem_fixed_of_var (varRequest_eq_some hmk))]

theorem decodeRequestBody_bare {cfg : Config} (hcfg : cfg.wf = true) {f : Byte} {i : Instr} (hi : bareRequest cfg f = some i)
    (body : List Byte) : decodeRequestBody cfg f body = .ok (i, body) := by
  have hbare := bareRequest_eq_some hi
  have hfixed := fixedRequest_eq_none fun h => not_mem_bareFns hcfg (mem_layouts_of_fixed h) hbare
  have hvar := varRequest_eq_none fun h => not_mem_bareFns hcfg (mem_layouts_of_var h) hbare
  simp [decodeRequestBody, hfixed, hvar, hi]

theorem decodeResponseBody_normal {cfg : Config} {f : Byte} {mk : List Byte → Half → Instr}
    (hmk : normalResponse cfg f = some mk) (body : List Byte) : decodeResponseBody cfg f body = decodeNormal mk body := by
  simp [decodeResponseBody, hmk]

theorem decodeResponseBody_exception {cfg : Config} (hcfg : cfg.wf = true) {f : Byte} {mk : Byte → Half → Instr}
    (hmk : exceptionResponse cfg f = some mk) (body : List Byte) : decodeResponseBody cfg f body = decodeException mk body := by
  simp [decodeResponseBody, hmk, normalResponse_eq_none hcfg (exceptionResponse_eq_some hmk)]

theorem decode_of_requestFrame {cfg : Config} (hcfg : cfg.wf = true) {i : Instr} {frame : List Byte}
    (h : RequestFrame cfg i frame) (rest : List Byte) : decodeRequest cfg (frame ++ rest) = .ok (i, rest) := by
  cases h with
  | fixed hmk =>
    have haccept := syncAccept_of_requestLayout hcfg (mem_layouts_of_fixed (fixedRequest_eq_some hmk))
    exact (decodeRequest_accepted haccept _).trans ((decodeRequestBody_fixed hmk _).trans (decodeFixed_fixedBody ..))
  | var hmk _ _ _ _ hlen =>
    have haccept := syncAccept_of_requestLayout hcfg (mem_layouts_of_var (varRequest_eq_some hmk))
    exact (decodeRequest_accepted haccept _).trans ((decodeRequestBody_var hmk _).trans (decodeVar_varBody _ _ _ _ _ hlen))
  | bare hi =>
    have haccept := syncAccept_of_bare hcfg (bareRequest_eq_some hi)
    exact (decodeRequest_accepted haccept _).trans (decodeRequestBody_bare hcfg hi _)
  | noise hf => simp [bareFrame, decodeRequest, hf]

theorem decode_of_responseFrame {cfg : Config} (hcfg : cfg.wf = true) {i : Instr} {frame : List Byte}
    (h : ResponseFrame cfg i frame) (rest : List Byte) : decodeResponse cfg (frame ++ rest) = .ok (i, rest) := by
  cases h with
  | normal hmk _ _ hlen =>
    have haccept := (syncAccept_iff hcfg _).mpr (.inl (normalResponse_eq_some hmk))
    exact (decodeResponse_accepted haccept _).trans
      ((decodeResponseBody_normal hmk _).trans (decodeNormal_normalBody _ _ _ hlen))
  | exception hmk =>
    have haccept := (syncAccept_iff hcfg _).mpr (.inr (exceptionResponse_eq_some hmk))
    exact (decodeResponse_accepted haccept _).trans
      ((decodeResponseBody_exception hcfg hmk _).trans (decodeException_body ..))
  | noise hf => simp [bareFrame, decodeResponse, hf]

/-! ### The round trips -/

/-- Settles O1: what the encoder writes is a frame of request position, and such a frame decodes. -/
theorem requestEncodingRoundTrips : Obligations.RequestEncodingRoundTrips := by
  intro cfg i frame rest hcfg hwf henc
  exact decode_of_requestFrame hcfg (requestFrame_of_encode hcfg hwf henc) rest

/-- Settles O2: what the encoder writes is a frame of response position, and such a frame decodes. -/
theorem responseEncodingRoundTrips : Obligations.ResponseEncodingRoundTrips := by
  intro cfg i frame rest hcfg hwf henc
  exact decode_of_responseFrame hcfg (responseFrame_of_encode hcfg hwf henc) rest

/-- Settles O4: what decodes is a frame of its position and the bytes left over, and such a frame is its instruction's encoding. -/
theorem decodedFrameIsItsEncoding : Obligations.DecodedFrameIsItsEncoding := by
  intro cfg d bytes rest i h
  cases d with
  | req =>
    obtain ⟨frame, hframe, rfl⟩ := requestFrame_of_decode h
    obtain ⟨hwf, henc⟩ := encode_of_requestFrame hframe
    exact ⟨hwf, frame, henc, rfl⟩
  | rsp =>
    obtain ⟨frame, hframe, rfl⟩ := responseFrame_of_decode h
    obtain ⟨hwf, henc⟩ := encode_of_responseFrame hframe
    exact ⟨hwf, frame, henc, rfl⟩

end Sys2Proof

namespace Sys2Proof

/-! ### A body of the right length is the body of a frame (R75) -/

theorem exists_fixedBody {body : List Byte} (h : body.length = 6) :
    ∃ addr p2 p3 crc, body = fixedBody addr p2 p3 ++ crcBytes crc := by
  match body, h with
  | [ah, al, p2, p3, cl, ch], _ => exact ⟨joinBytes ah al, p2, p3, joinBytes ch cl, by simp [fixedBody, crcBytes]⟩

theorem exists_normalBody {body : List Byte} {bc : Byte} (hbc : body[0]? = some bc) (h : body.length = 3 + bc.toNat) :
    ∃ payload crc, payload.length ≤ 255 ∧ body = normalBody payload ++ crcBytes crc := by
  match body, hbc with
  | bc' :: counted, hbc =>
    obtain rfl : bc' = bc := by simpa using hbc
    have hlen : (counted.drop bc'.toNat).length = 2 := by
      simp only [List.length_cons] at h
      simp only [List.length_drop]
      omega
    obtain ⟨cl, ch, hdrop⟩ := List.length_eq_two.mp hlen
    exact ⟨_, _, length_take_toNat_le bc' counted, by simpa using counted_eq hdrop⟩

theorem exists_varBody {body : List Byte} {bc : Byte} (hbc : body[4]? = some bc) (h : body.length = 7 + bc.toNat) :
    ∃ addr q data crc, data.length ≤ 255 ∧ body = varBody addr q data ++ crcBytes crc := by
  match body, hbc with
  | ah :: al :: qh :: ql :: counted, hbc =>
    simp only [List.length_cons] at h
    obtain ⟨data, crc, hlen, rfl⟩ := exists_normalBody (body := counted) hbc (by omega)
    exact ⟨joinBytes ah al, joinBytes qh ql, data, crc, hlen, by simp [varBody_eq]⟩

theorem exists_exceptionBody {body : List Byte} (h : body.length = 3) : ∃ err crc, body = [err] ++ crcBytes crc := by
  match body, h with
  | [err, cl, ch], _ => exact ⟨err, joinBytes ch cl, by simp [crcBytes]⟩

theorem requestFrame_fixed {cfg : Config} {f : Byte} {body : List Byte} (hf : f ∈ ([1, 2, 3, 4, 5, 6] : List Byte))
    (h : body.length = 6) : ∃ i, RequestFrame cfg i (cfg.expectedSlave :: f :: body) := by
  obtain ⟨mk, hmk⟩ := fixedRequest_of_mem hf
  obtain ⟨addr, p2, p3, crc, rfl⟩ := exists_fixedBody h
  exact ⟨_, .fixed hmk ..⟩

theorem requestFrame_var {cfg : Config} {f bc : Byte} {body : List Byte} (hf : f ∈ ([15, 16] : List Byte))
    (hbc : body[4]? = some bc) (h : body.length = 7 + bc.toNat) : ∃ i, RequestFrame cfg i (cfg.expectedSlave :: f :: body) := by
  obtain ⟨mk, hmk⟩ := varRequest_of_mem hf
  obtain ⟨addr, q, data, crc, hlen, rfl⟩ := exists_varBody hbc h
  exact ⟨_, .var hmk _ _ _ _ hlen⟩

theorem responseFrame_normal {cfg : Config} {f bc : Byte} {body : List Byte} (hf : f ∈ knownFn cfg)
    (hbc : body[0]? = some bc) (h : body.length = 3 + bc.toNat) :
    ∃ i, ResponseFrame cfg i (cfg.expectedSlave :: f :: body) := by
  obtain ⟨mk, hmk⟩ := normalResponse_of_mem hf
  obtain ⟨payload, crc, hlen, rfl⟩ := exists_normalBody hbc h
  exact ⟨_, .normal hmk _ _ hlen⟩

theorem responseFrame_exception {cfg : Config} {f : Byte} {body : List Byte} (hf : f ∈ (knownFn cfg).map (0x80 ||| ·))
    (h : body.length = 3) : ∃ i, ResponseFrame cfg i (cfg.expectedSlave :: f :: body) := by
  obtain ⟨mk, hmk⟩ := exceptionResponse_of_mem hf
  obtain ⟨err, crc, rfl⟩ := exists_exceptionBody h
  exact ⟨_, .exception hmk ..⟩

/-! ### Every function byte has a row (R85) -/

/-- R80: an accepted function byte has a request layout, or its header is the whole instruction. -/
theorem requestLayout_of_accepted {cfg : Config} (hcfg : cfg.wf = true) {f : Byte} (hf : syncAccept cfg f = true) :
    f ∈ ([1, 2, 3, 4, 5, 6] : List Byte) ∨ f ∈ ([15, 16] : List Byte) ∨ f ∈ bareFns cfg := by
  rcases (syncAccept_iff hcfg f).mp hf with h | h
  · simp only [knownFn, List.mem_cons, List.not_mem_nil, or_false] at h
    simp only [bareFns, List.mem_cons, List.not_mem_nil, or_false]
    tauto
  · exact .inr (.inr (List.mem_cons_of_mem _ h))

/-- With 262 bytes after the header some first part of them completes a request-position frame. -/
theorem exists_requestFrame {cfg : Config} (hcfg : cfg.wf = true) (f : Byte) {body : List Byte} (h : 262 ≤ body.length) :
    ∃ n i, RequestFrame cfg i (cfg.expectedSlave :: f :: body.take n) := by
  cases haccept : syncAccept cfg f with
  | false => exact ⟨0, _, .noise haccept⟩
  | true =>
    rcases requestLayout_of_accepted hcfg haccept with hf | hf | hf
    · exact ⟨6, requestFrame_fixed hf (by rw [List.length_take]; omega)⟩
    · have hbyte : 4 < body.length := by omega
      have hbound := body[4].isLt
      refine ⟨7 + body[4].toNat, requestFrame_var (bc := body[4]) hf ?_ (by rw [List.length_take]; omega)⟩
      rw [List.getElem?_take_of_lt (by omega), List.getElem?_eq_getElem hbyte]
    · obtain ⟨i, hi⟩ := bareRequest_of_mem hf
      exact ⟨0, i, .bare hi⟩

/-- The same in response position. -/
theorem exists_responseFrame {cfg : Config} (hcfg : cfg.wf = true) (f : Byte) {body : List Byte} (h : 262 ≤ body.length) :
    ∃ n i, ResponseFrame cfg i (cfg.expectedSlave :: f :: body.take n) := by
  cases haccept : syncAccept cfg f with
  | false => exact ⟨0, _, .noise haccept⟩
  | true =>
    rcases (syncAccept_iff hcfg f).mp haccept with hf | hf
    · have hbyte : 0 < body.length := by omega
      have hbound := body[0].isLt
      refine ⟨3 + body[0].toNat, responseFrame_normal (bc := body[0]) hf ?_ (by rw [List.length_take]; omega)⟩
      rw [List.getElem?_take_of_lt (by omega), List.getElem?_eq_getElem hbyte]
    · exact ⟨3, responseFrame_exception hf (by rw [List.length_take]; omega)⟩

/-- Settles O5: a first part of the bytes is a frame of the position, and a frame decodes whatever follows it. -/
theorem everyFunctionByteHasARow : Obligations.EveryFunctionByteHasARow := by
  intro cfg f body hcfg hlen
  constructor
  · obtain ⟨n, i, hframe⟩ := exists_requestFrame hcfg f hlen
    refine ⟨i, body.drop n, ?_⟩
    simpa using decode_of_requestFrame hcfg hframe (body.drop n)
  · obtain ⟨n, i, hframe⟩ := exists_responseFrame hcfg f hlen
    refine ⟨i, body.drop n, ?_⟩
    simpa using decode_of_responseFrame hcfg hframe (body.drop n)

/-- Settles O7, by running the decoder on each of the seven codes. -/
theorem writtenFramesDecode : Obligations.WrittenFramesDecode := by
  refine ⟨?_, ?_, ?_, ?_, ?_, ?_, ?_⟩ <;> rfl

end Sys2Proof


/-! # The register look-up table (44_register_decoder.md R180 to R191) -/

namespace Sys2Proof

open Sys2Proof.Machine (regRow_of_lookupEntry_none)

/-! ### Which row an address selects (R184, R190; 30_encoding.md R90) -/

/-- R181 item 1: a well-formed table holds the six entries of `REGMAP_MIN`. -/
theorem lookupEntry_of_mem_regMapMin {cfg : Config} (hcfg : cfg.wf = true) {addr : Half} {e : Entry}
    (h : (addr, e) ∈ regMapMin) : lookupEntry cfg.regMap addr = some e := by
  simp only [Config.wf, regMapWf, Bool.and_eq_true] at hcfg
  obtain ⟨⟨⟨⟨⟨-, hmin⟩, -⟩, -⟩, -⟩, -⟩ := hcfg
  exact of_decide_eq_true (List.all_eq_true.mp hmin _ h)

theorem lookupEntry_eq_none_iff (m : RegMap) (addr : Half) : lookupEntry m addr = none ↔ addr ∉ m.map Prod.fst := by
  induction m with
  | nil => simp [lookupEntry]
  | cons p rest ih =>
    obtain ⟨k, e⟩ := p
    by_cases hk : k = addr
    · simp [lookupEntry, hk]
    · simp only [lookupEntry, if_neg hk, ih, List.map_cons, List.mem_cons, Ne.symm hk, false_or]

/-- The row of an entry at an address outside `REGMAP_MIN` is by its kind (R90). -/
theorem regRow_of_open {cfg : Config} {addr : Half} {e : Entry} (h : lookupEntry cfg.regMap addr = some e)
    (hopen : lookupEntry regMapMin addr = none) : regRow cfg addr = openRow e := by
  have hne := (lookupEntry_eq_none_iff _ _).mp hopen
  simp [regMapMin] at hne
  simp [regRow, h, hne]

/-- An address has no entry, one of the six of `REGMAP_MIN`, or one beyond them. -/
theorem lookupEntry_cases (cfg : Config) (addr : Half) :
    lookupEntry cfg.regMap addr = none ∨ (∃ e, (addr, e) ∈ regMapMin)
      ∨ ∃ e, lookupEntry cfg.regMap addr = some e ∧ lookupEntry regMapMin addr = none := by
  cases hall : lookupEntry cfg.regMap addr with
  | none => exact .inl rfl
  | some e =>
    by_cases hmin : addr ∈ regMapMin.map Prod.fst
    · obtain ⟨⟨_, e'⟩, hmem, rfl⟩ := List.mem_map.mp hmin
      exact .inr (.inl ⟨e', hmem⟩)
    · exact .inr (.inr ⟨e, rfl, (lookupEntry_eq_none_iff _ _).mpr hmin⟩)

theorem openEntryAt_iff {cfg : Config} {addr : Half} {e : Entry} :
    openEntryAt cfg addr e = true ↔ lookupEntry cfg.regMap addr = some e ∧ lookupEntry regMapMin addr = none := by
  simp [openEntryAt]

/-! ### Samples and their rows -/

theorem decodeSample_of_none {cfg : Config} {addr : Half} (h : lookupEntry cfg.regMap addr = none) (value : Half) :
    decodeSample cfg addr value = .unmapped addr value := by
  rw [decodeSample, regRow_of_lookupEntry_none h]

theorem decodeSample_of_open {cfg : Config} {addr : Half} {e : Entry} (h : lookupEntry cfg.regMap addr = some e)
    (hopen : lookupEntry regMapMin addr = none) (value : Half) :
    decodeSample cfg addr value =
      match e with
      | .single q signed exp10 unit => .openSingle addr q signed exp10 unit value
      | .high q => .openHigh addr q value
      | .low q signed exp10 unit => .openLow addr q signed exp10 unit value := by
  rw [decodeSample, regRow_of_open h hopen]
  cases e <;> rfl

/-- A well-formed row's sample selects that row. -/
theorem decodeSample_of_encode {cfg : Config} (hcfg : cfg.wf = true) {i : Instr} {addr value : Half} (hwf : i.wf cfg = true)
    (h : encode cfg i = .sample addr value) : decodeSample cfg addr value = i := by
  have hmin : ∀ p ∈ regMapMin, lookupEntry cfg.regMap p.1 = some p.2 := fun _ => lookupEntry_of_mem_regMapMin hcfg
  simp only [regMapMin, List.forall_mem_cons] at hmin
  obtain ⟨h1, h2, h3, h4, h5, h6, -⟩ := hmin
  cases i
  case energyToday => cases h; rw [decodeSample, regRow, h1]; rfl
  case curGenHi => cases h; rw [decodeSample, regRow, h2]; rfl
  case curGenLo => cases h; rw [decodeSample, regRow, h3]; rfl
  case battSoc => cases h; rw [decodeSample, regRow, h4]; rfl
  case meterHi => cases h; rw [decodeSample, regRow, h5]; rfl
  case meterLo => cases h; rw [decodeSample, regRow, h6]; rfl
  case unmapped => cases h; exact decodeSample_of_none (of_decide_eq_true hwf) _
  case openSingle | openHigh | openLow =>
    cases h
    obtain ⟨hall, hopen⟩ := openEntryAt_iff.mp hwf
    exact decodeSample_of_open hall hopen _
  all_goals cases h

/-- Every sample is the code of the well-formed row that it selects. -/
theorem encode_decodeSample {cfg : Config} (hcfg : cfg.wf = true) (addr value : Half) :
    (decodeSample cfg addr value).wf cfg = true ∧ encode cfg (decodeSample cfg addr value) = .sample addr value := by
  rcases lookupEntry_cases cfg addr with hnone | ⟨e, hmem⟩ | ⟨e, hall, hopen⟩
  · rw [decodeSample_of_none hnone]
    exact ⟨decide_eq_true hnone, rfl⟩
  · have hall := lookupEntry_of_mem_regMapMin hcfg hmem
    simp only [regMapMin, List.mem_cons, Prod.mk.injEq, List.not_mem_nil, or_false] at hmem
    rcases hmem with ⟨rfl, rfl⟩ | ⟨rfl, rfl⟩ | ⟨rfl, rfl⟩ | ⟨rfl, rfl⟩ | ⟨rfl, rfl⟩ | ⟨rfl, rfl⟩ <;>
      rw [decodeSample, regRow, hall] <;> exact ⟨rfl, rfl⟩
  · rw [decodeSample_of_open hall hopen]
    cases e <;> exact ⟨openEntryAt_iff.mpr ⟨hall, hopen⟩, rfl⟩

/-- Settles O3: a row is found at its own address, and every address has a row. -/
theorem sampleEncodingRoundTrips : Obligations.SampleEncodingRoundTrips := by
  intro cfg addr value hcfg
  exact ⟨fun i hwf henc => decodeSample_of_encode hcfg hwf henc, encode_decodeSample hcfg addr value⟩

end Sys2Proof

/-! # The checksum (40_crc16.md R101, R102, R108)

One shift as a function of the bits: it gives the equality with the direct form, and it shows that the shift loses nothing, which is
why a changed byte always changes the checksum. -/

namespace Sys2Proof.Machine

/-! ### One shift, bit by bit (R101) -/

theorem getLsbD_crcShift (c : Half) (i : Nat) :
    (crcShift c).getLsbD i = (c.getLsbD (i + 1) ^^ (c.getLsbD 0 && (0xA001 : Half).getLsbD i)) := by
  unfold crcShift
  cases h : c.getLsbD 0 <;> simp [Nat.add_comm 1 i]

/-- The bit that falls out comes back as bit 15, so a shift can be undone. -/
theorem crcShift_injective : Function.Injective crcShift := by
  intro c d h
  have hbit : ∀ i, (crcShift c).getLsbD i = (crcShift d).getLsbD i := fun i => by rw [h]
  simp only [getLsbD_crcShift] at hbit
  have hlow : c.getLsbD 0 = d.getLsbD 0 := by simpa using hbit 15
  refine BitVec.eq_of_getLsbD_eq fun i hi => ?_
  cases i with
  | zero => exact hlow
  | succ i =>
    have hi := hbit i
    rw [hlow] at hi
    exact Bool.xor_left_inj.mp hi

theorem crcShifts_injective (n : Nat) : Function.Injective (crcShifts n) := by
  induction n with
  | zero => exact fun _ _ h => h
  | succ n ih => exact fun _ _ h => crcShift_injective (ih h)

/-- With the low `n` bits clear, `n` shifts only move the register. -/
theorem crcShifts_of_low_clear (n : Nat) (c : Half) (h : ∀ i, i < n → c.getLsbD i = false) : crcShifts n c = c >>> n := by
  induction n generalizing c with
  | zero => simp
  | succ n ih =>
    have hshift : crcShift c = c >>> 1 := by simp only [crcShift, h 0 (by omega), Bool.false_eq_true, if_false]
    rw [crcShifts_succ, hshift, ih _ fun i hi => by simpa [Nat.add_comm 1 i] using h (i + 1) (by omega)]
    rw [← BitVec.shiftRight_add, Nat.add_comm 1 n]

/-! ### One byte, and a sequence -/

theorem crcStep_injective (b : Byte) : Function.Injective fun c => crcStep c b := by
  intro c d h
  exact (BitVec.xor_left_inj _).mp (crcShifts_injective 8 h)

/-- Different bytes leave different registers. -/
theorem crcStep_byte_injective (c : Half) : Function.Injective (crcStep c) := by
  intro b b' h
  have hwide : b.setWidth 16 = b'.setWidth 16 := (BitVec.xor_right_inj _).mp (crcShifts_injective 8 h)
  have hback := congrArg (BitVec.setWidth 8) hwide
  simpa using hback

theorem crcFold_append (c : Half) (bytes more : List Byte) : crcFold c (bytes ++ more) = crcFold (crcFold c bytes) more :=
  List.foldl_append

theorem crcFold_injective (bytes : List Byte) : Function.Injective fun c => crcFold c bytes := by
  induction bytes with
  | nil => exact fun _ _ h => h
  | cons b rest ih => exact fun _ _ h => crcStep_injective b (ih h)

/-! ### The residue (R108 law 4) -/

/-- A register followed by its own two bytes, the low byte first, is cleared. -/
theorem crcFold_crcBytes (c : Half) : crcFold c (crcBytes c) = 0 := by
  have hlow : crcStep c (loByte c) = (hiByte c).setWidth 16 := by
    rw [crcStep, crcShifts_of_low_clear]
    · apply BitVec.eq_of_getLsbD_eq
      intro i hi
      simp only [hiByte, loByte, BitVec.getLsbD_ushiftRight, BitVec.getLsbD_xor, BitVec.getLsbD_setWidth,
        BitVec.getLsbD_extractLsb']
      grind
    · intro i hi
      have hwide : i < 16 := by omega
      simp [loByte, hi, hwide]
  have hhigh : crcStep ((hiByte c).setWidth 16) (hiByte c) = 0 := by
    rw [crcStep, BitVec.xor_self]
    rfl
  simp [crcBytes, hlow, hhigh]

/-- Settles O9. -/
theorem crcResidueIsZero : Obligations.CrcResidueIsZero := by
  intro m
  rw [crc16, crcFold_append]
  exact crcFold_crcBytes _

/-! ### A valid frame has residue 0, and one changed byte changes the residue (R108 law 3) -/

/-- The last two bytes clear the register exactly when they are its own. -/
theorem crcFold_crcBytes_eq_zero (c crc : Half) : crcFold c (crcBytes crc) = 0 ↔ c = crc := by
  constructor
  · intro h
    exact crcFold_injective (crcBytes crc) (h.trans (crcFold_crcBytes crc).symm)
  · rintro rfl
    exact crcFold_crcBytes c

theorem frameValid_append_crcBytes (m : List Byte) (crc : Half) : frameValid (m ++ crcBytes crc) = decide (crc16 m = crc) := by
  simp [frameValid, crcValid, coveredBytes, receivedCrc, crcBytes]

/-- A sequence of at least two bytes ends with the two bytes of a CRC. -/
theorem exists_crcBytes {bytes : List Byte} (hlen : 2 ≤ bytes.length) : ∃ m crc, bytes = m ++ crcBytes crc := by
  have hlast : (bytes.drop (bytes.length - 2)).length = 2 := by rw [List.length_drop]; omega
  obtain ⟨cl, ch, hdrop⟩ := List.length_eq_two.mp hlast
  exact ⟨_, joinBytes ch cl, by rw [crcBytes_joinBytes, ← hdrop, List.take_append_drop]⟩

theorem frameValid_iff {bytes : List Byte} (hlen : 2 ≤ bytes.length) : frameValid bytes = true ↔ crc16 bytes = 0 := by
  obtain ⟨m, crc, rfl⟩ := exists_crcBytes hlen
  rw [frameValid_append_crcBytes, decide_eq_true_iff, crc16, crc16, crcFold_append, crcFold_crcBytes_eq_zero]

/-- Settles O10: both frames valid would leave the register 0 for both, and every step of the fold can be undone. -/
theorem singleByteCorruptionDetected : Obligations.SingleByteCorruptionDetected := by
  intro pre post b b' hne hlen hvalid
  by_contra hvalid'
  rw [Bool.not_eq_false] at hvalid'
  rw [frameValid_iff (by simp; omega), crc16, crcFold_append] at hvalid hvalid'
  exact hne (crcStep_byte_injective _ (crcFold_injective post (hvalid.trans hvalid'.symm)))

/-! ### The direct form (R102) -/

theorem getLsbD_reverse16 (c : Half) {i : Nat} (hi : i < 16) : c.reverse.getLsbD i = c.getLsbD (15 - i) := by
  rw [BitVec.getLsbD_reverse, BitVec.getMsbD, decide_eq_true hi, Bool.true_and]

theorem reverse_xor (c d : Half) : (c ^^^ d).reverse = c.reverse ^^^ d.reverse := by
  refine BitVec.eq_of_getLsbD_eq fun i hi => ?_
  simp only [BitVec.getLsbD_xor, getLsbD_reverse16 _ hi]

theorem reverse_shiftRight (c : Half) : (c >>> 1).reverse = c.reverse <<< 1 := by
  refine BitVec.eq_of_getLsbD_eq fun i hi => ?_
  rw [getLsbD_reverse16 _ hi, BitVec.getLsbD_ushiftRight, BitVec.getLsbD_shiftLeft]
  cases i with
  | zero => exact BitVec.getLsbD_of_ge c 16 (le_refl 16)
  | succ i =>
    rw [Nat.add_sub_cancel, getLsbD_reverse16 _ (by omega), show 1 + (15 - (i + 1)) = 15 - i by omega]
    simp [hi]

theorem reverse_crcShift (c : Half) : (crcShift c).reverse = directShift c.reverse := by
  have hpoly : BitVec.reverse (0xA001 : Half) = 0x8005 := by decide
  unfold crcShift directShift
  rw [getLsbD_reverse16 c (by omega)]
  split_ifs
  · rw [reverse_xor, reverse_shiftRight, hpoly]
  · exact reverse_shiftRight c

theorem reverse_crcShifts (n : Nat) (c : Half) : (crcShifts n c).reverse = directShifts n c.reverse := by
  induction n generalizing c with
  | zero => rfl
  | succ n ih => rw [crcShifts_succ, ih, reverse_crcShift, directShifts]

/-- A byte reversed in 16 bits stands in the high half, its own bits reversed. -/
theorem reverse_setWidth (b : Byte) : (b.setWidth 16).reverse = b.reverse.setWidth 16 <<< 8 := by
  refine BitVec.eq_of_getLsbD_eq fun i hi => ?_
  rw [getLsbD_reverse16 _ hi]
  simp only [BitVec.getLsbD_setWidth, BitVec.getLsbD_shiftLeft, BitVec.getLsbD_reverse, BitVec.getMsbD]
  grind

theorem reverse_crcStep (c : Half) (b : Byte) : (crcStep c b).reverse = directStep c.reverse b := by
  rw [crcStep, reverse_crcShifts, directStep, reverse_xor, reverse_setWidth]

theorem reverse_crcFold (c : Half) (bytes : List Byte) : (crcFold c bytes).reverse = bytes.foldl directStep c.reverse := by
  induction bytes generalizing c with
  | nil => rfl
  | cons b rest ih => rw [crcFold_cons, ih, reverse_crcStep, List.foldl_cons]

/-- Settles O8: reversing the register turns each reflected shift into the direct one. -/
theorem reflectedCrcIsDirectCrc : Obligations.ReflectedCrcIsDirectCrc := by
  intro bytes
  have hstart : BitVec.reverse (0xFFFF : Half) = 0xFFFF := by decide
  have hfold := reverse_crcFold 0xFFFF bytes
  rw [hstart] at hfold
  rw [crcDirect, ← hfold, BitVec.reverse_reverse_eq]
  rfl

end Sys2Proof.Machine

/-! # Fetching a frame, one byte a step (41_frame_sync.md, 42_request_parser.md, 43_response_parser.md section 2)

What each phase does with a byte, as an equation under the condition that selects it. `stored` and `accepted` name the two states that
the byte-reading rules go through. -/

namespace Sys2Proof.Machine

/-! ### The bytes the buffer holds -/

/-- One more byte in the buffer is one more byte in the frame. -/
theorem readFrame_writeByte {m : Memory} {n : Nat} {bytes : List Byte} (b : Byte) (h : readFrame m 0 n = .next bytes) :
    readFrame (writeByte m n b) 0 (n + 1) = .next (bytes ++ [b]) := by
  obtain ⟨rfl, hread⟩ := readFrame_next h
  have hlen : bytes.length + 1 = (bytes ++ [b]).length := by simp
  rw [hlen]
  refine readFrame_eq _ _ _ fun i hi => ?_
  rw [Nat.zero_add]
  by_cases hlast : i = bytes.length
  · subst hlast
    simp
  · have hlt : i < bytes.length := by simp at hi; omega
    have hi' := hread i hlt
    rw [Nat.zero_add] at hi'
    rw [readByte_writeByte_other _ _ _ _ hlast, hi', List.getElem?_append_left hlt]

/-- A buffer that holds one byte. -/
theorem readFrame_one {m : Memory} {b : Byte} (h : readByte m 0 = some b) : readFrame m 0 1 = .next [b] := by
  simp [readFrame, h, andThen]

/-! ### The end of a frame, and of a rejected candidate (log entry 8) -/

theorem endFrame_of_decode {d : Dir} {s : State} {bytes : List Byte} {i : Instr} (hread : readFrame s.fb 0 s.len = .next bytes)
    (hdec : decode s.cfg (.frame d bytes) = .ok (i, [])) : endFrame d s = .next (.complete i s) := by
  simp [endFrame, hread, decodeWhole, hdec]

theorem endCandidate_of_decode {d : Dir} {b : Byte} {s : State} {bytes : List Byte} {i : Instr}
    (hread : readFrame s.fb 0 s.len = .next bytes) (hdec : decode s.cfg (.frame d (bytes ++ [b])) = .ok (i, [])) :
    endCandidate d b s = .next (.complete i s) := by
  simp [endCandidate, hread, decodeWhole, hdec]

/-! ### A header search (41_frame_sync.md R117, R118, R119) -/

/-- The phase in which a position's candidate header waits for its function byte. -/
def candidatePhase : Dir → Phase
  | .req => .reqSyncFn
  | .rsp => .rspSyncFn

theorem fetchSlave_found {d : Dir} {b : Byte} {s : State} (hb : b = s.cfg.expectedSlave) :
    fetchSlave d b s = .next (.more { s with fb := writeByte s.fb 0 b, len := 1, ph := candidatePhase d }) := by
  have hindex : 0 < frameBufferSize := by decide
  unfold fetchSlave
  rw [if_pos hb, putByte_of_lt hindex, andThen_of_next]
  cases d <;> rfl

theorem fetchSlave_passed {d : Dir} {b : Byte} {s : State} (hb : b ≠ s.cfg.expectedSlave) :
    fetchSlave d b s = .next (.more { s with skipped := addSaturating s.skipped 1 }) :=
  if_neg hb

/-- The state after R118: the function byte stored and reported. -/
def accepted (d : Dir) (b : Byte) (s : State) : State :=
  emit (.header d b s.skipped) { s with fn := b, fb := writeByte s.fb 1 b, len := 2 }

theorem acceptHeader_eq (d : Dir) (b : Byte) (s : State) : acceptHeader d b s = .next (accepted d b s) := by
  have hindex : 1 < frameBufferSize := by decide
  rw [acceptHeader, putByte_of_lt hindex, andThen_of_next]
  rfl

theorem fetchRequestFunction_accepted {b : Byte} {s : State} (hb : syncAccept s.cfg b = true) :
    fetchRequestFunction b s =
      if b ∈ ([1, 2, 3, 4, 5, 6] : List Byte) then .next (.more { accepted .req b s with need := 6, ph := .reqBody })
      else if b ∈ ([15, 16] : List Byte) then .next (.more { accepted .req b s with need := 5, ph := .reqPrefix })
      else endFrame .req (accepted .req b s) := by
  rw [fetchRequestFunction, if_pos hb, acceptHeader_eq, andThen_of_next]

theorem fetchRequestFunction_fixed {b : Byte} {s : State} (hacc : syncAccept s.cfg b = true)
    (hb : b ∈ ([1, 2, 3, 4, 5, 6] : List Byte)) :
    fetchRequestFunction b s = .next (.more { accepted .req b s with need := 6, ph := .reqBody }) := by
  rw [fetchRequestFunction_accepted hacc, if_pos hb]

theorem fetchRequestFunction_var {b : Byte} {s : State} (hacc : syncAccept s.cfg b = true)
    (hb : b ∈ ([15, 16] : List Byte)) :
    fetchRequestFunction b s = .next (.more { accepted .req b s with need := 5, ph := .reqPrefix }) := by
  rw [fetchRequestFunction_accepted hacc, if_neg (not_mem_fixed_of_var hb), if_pos hb]

theorem fetchRequestFunction_bare {b : Byte} {s : State} (hacc : syncAccept s.cfg b = true)
    (hb : b ∉ requestFns) : fetchRequestFunction b s = endFrame .req (accepted .req b s) := by
  rw [fetchRequestFunction_accepted hacc, if_neg fun h => hb (mem_layouts_of_fixed h),
    if_neg fun h => hb (mem_layouts_of_var h)]

theorem fetchRequestFunction_rejected {b : Byte} {s : State} (hb : syncAccept s.cfg b = false) :
    fetchRequestFunction b s = endCandidate .req b s := by
  simp [fetchRequestFunction, hb]

theorem fetchResponseFunction_accepted {b : Byte} {s : State} (hb : syncAccept s.cfg b = true) :
    fetchResponseFunction b s = .next (.more { accepted .rsp b s with ph := .rspBc }) := by
  rw [fetchResponseFunction, if_pos hb, acceptHeader_eq, andThen_of_next]

theorem fetchResponseFunction_rejected {b : Byte} {s : State} (hb : syncAccept s.cfg b = false) :
    fetchResponseFunction b s = endCandidate .rsp b s := by
  simp [fetchResponseFunction, hb]

/-! ### Inside a frame (R141, R142, R162) -/

/-- The state after the first two lines of R141, R142 and R162: the byte stored and counted down. -/
def stored (b : Byte) (s : State) : State := { s with fb := writeByte s.fb s.len b, len := s.len + 1, need := s.need - 1 }

theorem storeByte_of_lt {b : Byte} {s : State} (hlen : s.len < 264) : storeByte b s = .next (stored b s) := by
  rw [storeByte, putByte_of_lt hlen, andThen_of_next]
  rfl

theorem fetchBody_more {d : Dir} {b : Byte} {s : State} (hlen : s.len < 264) (hneed : 1 < s.need) :
    fetchBody d b s = .next (.more (stored b s)) := by
  have hleft : (stored b s).need ≠ 0 := Nat.sub_ne_zero_of_lt hneed
  rw [fetchBody, storeByte_of_lt hlen, andThen_of_next, if_neg hleft]

theorem fetchBody_last {d : Dir} {b : Byte} {s : State} {bytes : List Byte} {i : Instr} (hlen : s.len < 264) (hneed : s.need = 1)
    (hread : readFrame s.fb 0 s.len = .next bytes) (hdec : decode s.cfg (.frame d (bytes ++ [b])) = .ok (i, [])) :
    fetchBody d b s = .next (.complete i (stored b s)) := by
  have hnone : (stored b s).need = 0 := by rw [stored, hneed]
  rw [fetchBody, storeByte_of_lt hlen, andThen_of_next, if_pos hnone]
  exact endFrame_of_decode (readFrame_writeByte b hread) hdec

theorem fetchPrefix_more {b : Byte} {s : State} (hlen : s.len < 264) (hneed : 1 < s.need) :
    fetchPrefix b s = .next (.more (stored b s)) := by
  have hleft : (stored b s).need ≠ 0 := Nat.sub_ne_zero_of_lt hneed
  rw [fetchPrefix, storeByte_of_lt hlen, andThen_of_next, if_neg hleft]

/-- The fifth byte is the byte count (the spec's decision D8). -/
theorem fetchPrefix_last {b : Byte} {s : State} (hlen : s.len = 6) (hneed : s.need = 1) :
    fetchPrefix b s = .next (.more { stored b s with need := b.toNat + 2, ph := .reqBody }) := by
  have hnone : (stored b s).need = 0 := by rw [stored, hneed]
  have hcount : readByte (stored b s).fb 6 = some b := by rw [stored, hlen]; exact readByte_writeByte_same ..
  rw [fetchPrefix, storeByte_of_lt (by omega), andThen_of_next, if_pos hnone, hcount]

/-! ### Which rule a phase follows (45_transaction_sequencer.md R215) -/

/-- The phase in which a position's frame ends, and the position. -/
def bodyPhases : List (Phase × Dir) := [(.reqBody, .req), (.rspExc, .rsp), (.rspBody, .rsp)]

theorem fetchByte_search {d : Dir} {s : State} (hph : s.ph = searchPhase d) (b : Byte) : fetchByte b s = fetchSlave d b s := by
  cases d <;> simp [fetchByte, hph, searchPhase]

theorem fetchByte_reqSyncFn {s : State} (hph : s.ph = .reqSyncFn) (b : Byte) : fetchByte b s = fetchRequestFunction b s := by
  simp [fetchByte, hph]

theorem fetchByte_rspSyncFn {s : State} (hph : s.ph = .rspSyncFn) (b : Byte) : fetchByte b s = fetchResponseFunction b s := by
  simp [fetchByte, hph]

theorem fetchByte_rejected {d : Dir} {b : Byte} {s : State} (hph : s.ph = candidatePhase d) (hb : syncAccept s.cfg b = false) :
    fetchByte b s = endCandidate d b s := by
  cases d with
  | req => rw [fetchByte_reqSyncFn hph, fetchRequestFunction_rejected hb]
  | rsp => rw [fetchByte_rspSyncFn hph, fetchResponseFunction_rejected hb]

theorem fetchByte_reqPrefix {s : State} (hph : s.ph = .reqPrefix) (b : Byte) : fetchByte b s = fetchPrefix b s := by
  simp [fetchByte, hph]

theorem fetchByte_body {d : Dir} {s : State} (hph : (s.ph, d) ∈ bodyPhases) (b : Byte) : fetchByte b s = fetchBody d b s := by
  simp only [bodyPhases, List.mem_cons, Prod.mk.injEq, List.not_mem_nil, or_false] at hph
  rcases hph with ⟨hph, rfl⟩ | ⟨hph, rfl⟩ | ⟨hph, rfl⟩ <;> simp [fetchByte, hph]

/-! ### The steps -/

section
variable {s : State} {b : Byte} {rest : List InEvent} (hw : s.cfg.wf = true) (hi : s.inp = .byte b :: rest)
include hw hi

/-- A fetched byte that ends its instruction: the step is the execution of it. -/
theorem step_byte_of_complete {i : Instr} {t : State} (hph : s.ph ≠ .halted)
    (hfetch : fetchByte b { s with inp := rest, out := [] } = .next (.complete i t)) : step s = exec i t := by
  rw [step_byte hw hph hi, hfetch]
  rfl

/-- R141 and R162 while bytes are missing. -/
theorem step_body_more {d : Dir} (hph : (s.ph, d) ∈ bodyPhases) (hlen : s.len < 264) (hneed : 1 < s.need) :
    step s = .next (stored b { s with inp := rest, out := [] }) := by
  have hrunning : s.ph ≠ .halted := by rintro h; simp [h, bodyPhases] at hph
  exact step_byte_of_more hw hrunning hi
    ((fetchByte_body (s := { s with inp := rest, out := [] }) hph b).trans (fetchBody_more hlen hneed))

/-- R141 and R162 for the last byte (log entry 8). -/
theorem step_body_last {d : Dir} {bytes : List Byte} {i : Instr} (hph : (s.ph, d) ∈ bodyPhases) (hlen : s.len < 264)
    (hneed : s.need = 1) (hread : readFrame s.fb 0 s.len = .next bytes)
    (hdec : decode s.cfg (.frame d (bytes ++ [b])) = .ok (i, [])) :
    step s = exec i (stored b { s with inp := rest, out := [] }) := by
  have hrunning : s.ph ≠ .halted := by rintro h; simp [h, bodyPhases] at hph
  exact step_byte_of_complete hw hi hrunning
    ((fetchByte_body (s := { s with inp := rest, out := [] }) hph b).trans (fetchBody_last hlen hneed hread hdec))

/-- R142 while bytes are missing. -/
theorem step_reqPrefix_more (hph : s.ph = .reqPrefix) (hlen : s.len < 264) (hneed : 1 < s.need) :
    step s = .next (stored b { s with inp := rest, out := [] }) :=
  step_byte_of_more hw (by simp [hph]) hi
    ((fetchByte_reqPrefix (s := { s with inp := rest, out := [] }) hph b).trans (fetchPrefix_more hlen hneed))

/-- R142 for the byte count. -/
theorem step_reqPrefix_last (hph : s.ph = .reqPrefix) (hlen : s.len = 6) (hneed : s.need = 1) :
    step s = .next { stored b { s with inp := rest, out := [] } with need := b.toNat + 2, ph := .reqBody } :=
  step_byte_of_more hw (by simp [hph]) hi
    ((fetchByte_reqPrefix (s := { s with inp := rest, out := [] }) hph b).trans (fetchPrefix_last hlen hneed))

end

theorem stored_stored (b : Byte) (s : State) (rest : List InEvent) (out : List OutEvent) :
    Stored s (stored b { s with inp := rest, out := out }) s.len b :=
  stored_of_fb_eq_writeByte rfl

/-- Settles O15: the two equations of R141's byte. -/
theorem requestBodyByte : Obligations.RequestBodyByte := by
  intro s b rest hw hph hlen hi
  have hbody : (s.ph, Dir.req) ∈ bodyPhases := by simp [hph, bodyPhases]
  refine ⟨fun hneed => ?_, fun hneed frame i hread hdec => ?_⟩
  · exact ⟨_, step_body_more hw hi hbody hlen hneed, stored_stored .., rfl⟩
  · exact ⟨_, step_body_last hw hi hbody hlen hneed hread hdec, stored_stored .., by simp [stored, hneed]⟩

/-- Settles O18: the two equations of R162's byte, the same in both phases. -/
theorem responseBodyByte : Obligations.ResponseBodyByte := by
  intro s b rest hw hph hlen hi
  have hbody : (s.ph, Dir.rsp) ∈ bodyPhases := by rcases hph with h | h <;> simp [h, bodyPhases]
  refine ⟨fun hneed => ?_, fun hneed frame i hread hdec => ?_⟩
  · exact ⟨_, step_body_more hw hi hbody hlen hneed, stored_stored .., rfl⟩
  · exact ⟨_, step_body_last hw hi hbody hlen hneed hread hdec, stored_stored .., by simp [stored, hneed]⟩

/-- Settles O16: the two equations of R142's byte. -/
theorem requestPrefixByte : Obligations.RequestPrefixByte := by
  intro s b rest hw hph hlen hi
  refine ⟨fun hneed => ?_, fun hneed hsix => ?_⟩
  · exact ⟨_, step_reqPrefix_more hw hi hph hlen hneed, stored_stored .., rfl⟩
  · exact ⟨_, step_reqPrefix_last hw hi hph hsix hneed, hsix ▸ stored_of_fb_eq_writeByte rfl, by simp [stored, hsix]⟩

/-- Settles O12: the two equations of R117's byte. -/
theorem headerSearchByte : Obligations.HeaderSearchByte := by
  intro s b rest search found hmem hw hph hi
  obtain ⟨d, rfl, rfl⟩ : ∃ d, search = searchPhase d ∧ found = candidatePhase d := by
    simp only [List.mem_cons, Prod.mk.injEq, List.not_mem_nil, or_false] at hmem
    rcases hmem with ⟨rfl, rfl⟩ | ⟨rfl, rfl⟩
    · exact ⟨.req, rfl, rfl⟩
    · exact ⟨.rsp, rfl, rfl⟩
  have hrunning : s.ph ≠ .halted := by cases d <;> simp [hph, searchPhase]
  have hfetch := fetchByte_search (s := { s with inp := rest, out := [] }) hph b
  refine ⟨fun hb => ?_, fun hb => ?_⟩
  · exact ⟨_, step_byte_of_more hw hrunning hi (hfetch.trans (fetchSlave_found hb)), stored_of_fb_eq_writeByte rfl, rfl⟩
  · exact step_byte_of_more hw hrunning hi (hfetch.trans (fetchSlave_passed hb))

end Sys2Proof.Machine

namespace Sys2Proof.Machine

/-! ### The function byte of a candidate header (R80, R118, R119, R130) -/

/-- What executing a header without a request layout does (R139, R140). -/
theorem exec_bareRequest {f : Byte} {i : Instr} {s : State} (h : bareRequest s.cfg f = some i) :
    exec i s = .next (takeFailure (.unsupportedFunction f) s) := by
  unfold bareRequest at h
  split_ifs at h <;> (subst f; cases h; rfl)

/-- Failure entry drops the frame in progress, so what the buffer held makes no difference to it (R250). -/
theorem takeFailure_frame (info : FailInfo) (s : State) (m : Memory) (n : Nat) :
    takeFailure info { s with fb := m, len := n } = takeFailure info s := by
  unfold takeFailure
  split <;> rfl

/-- The row of a rejected header (R119), as an instruction. -/
def noiseRow (d : Dir) (f : Byte) : Instr :=
  match d with
  | .req => .noiseReq f
  | .rsp => .noiseRsp f

theorem exec_noiseRow (d : Dir) (f : Byte) (s : State) : exec (noiseRow d f) s = .next (skipCandidate d s) := by
  cases d <;> rfl

theorem decode_rejected {cfg : Config} {f : Byte} (hf : syncAccept cfg f = false) (d : Dir) :
    decode cfg (.frame d [cfg.expectedSlave, f]) = .ok (noiseRow d f, []) := by
  cases d with
  | req => simp [decode, decodeRequest, hf, noiseRow]
  | rsp => simp [decode, decodeResponse, hf, noiseRow]

theorem decode_bare {cfg : Config} (hcfg : cfg.wf = true) {f : Byte} {i : Instr} (h : bareRequest cfg f = some i) :
    decode cfg (.frame .req [cfg.expectedSlave, f]) = .ok (i, []) :=
  decode_of_requestFrame hcfg (.bare h) []

section
variable {s : State} {b : Byte} {rest : List InEvent} (hw : s.cfg.wf = true) (hi : s.inp = .byte b :: rest)
include hw hi

/-- R119 for any candidate: the bytes that were collected and the rejected byte decode to its row. -/
theorem step_rejected {d : Dir} {bytes : List Byte} {i : Instr} (hph : s.ph = candidatePhase d)
    (hread : readFrame s.fb 0 s.len = .next bytes) (hb : syncAccept s.cfg b = false)
    (hdec : decode s.cfg (.frame d (bytes ++ [b])) = .ok (i, [])) :
    step s = exec i { s with inp := rest, out := [] } := by
  have hrunning : s.ph ≠ .halted := by cases d <;> simp [hph, candidatePhase]
  exact step_byte_of_complete hw hi hrunning
    ((fetchByte_rejected (s := { s with inp := rest, out := [] }) hph hb).trans (endCandidate_of_decode hread hdec))

/-- R119 for a candidate that holds the slave byte. -/
theorem step_skipCandidate {d : Dir} (hph : s.ph = candidatePhase d) (hlen : s.len = 1)
    (hslave : readByte s.fb 0 = some s.cfg.expectedSlave) (hb : syncAccept s.cfg b = false) :
    step s = .next (skipCandidate d { s with inp := rest, out := [] }) := by
  rw [step_rejected hw hi hph (hlen ▸ readFrame_one hslave) hb (decode_rejected hb d), exec_noiseRow]

/-- R130 for a function byte that ends its instruction. -/
theorem step_bareHeader {bytes : List Byte} {i : Instr} (hph : s.ph = .reqSyncFn) (hlen : s.len = 1)
    (hread : readFrame s.fb 0 s.len = .next bytes) (hacc : syncAccept s.cfg b = true) (hb : b ∉ requestFns)
    (hdec : decode s.cfg (.frame .req (bytes ++ [b])) = .ok (i, [])) :
    step s = exec i (accepted .req b { s with inp := rest, out := [] }) := by
  have hread' : readFrame (accepted .req b { s with inp := rest, out := [] }).fb 0 2 = .next (bytes ++ [b]) :=
    readFrame_writeByte (n := 1) b (hlen ▸ hread)
  exact step_byte_of_complete hw hi (by simp [hph]) ((fetchByte_reqSyncFn (s := { s with inp := rest, out := [] }) hph b).trans
    ((fetchRequestFunction_bare (s := { s with inp := rest, out := [] }) hacc hb).trans (endFrame_of_decode hread' hdec)))

/-- R139 and R140: such a header is a failure at once. -/
theorem step_unsupported (hph : s.ph = .reqSyncFn) (hlen : s.len = 1) (hslave : readByte s.fb 0 = some s.cfg.expectedSlave)
    (hb : b ∈ bareFns s.cfg) :
    step s = .next (takeFailure (.unsupportedFunction b) (accepted .req b { s with inp := rest, out := [] })) := by
  obtain ⟨i, hrow⟩ := bareRequest_of_mem hb
  have hlayout : b ∉ requestFns := fun h => not_mem_bareFns hw h hb
  rw [step_bareHeader hw hi hph hlen (hlen ▸ readFrame_one hslave) (syncAccept_of_bare hw hb) hlayout (decode_bare hw hrow)]
  exact exec_bareRequest hrow

/-- R130 for a function byte of format REQ_FIXED. -/
theorem step_fixedHeader (hph : s.ph = .reqSyncFn) (hb : b ∈ ([1, 2, 3, 4, 5, 6] : List Byte)) :
    step s = .next { accepted .req b { s with inp := rest, out := [] } with need := 6, ph := .reqBody } :=
  step_byte_of_more hw (by simp [hph]) hi ((fetchByte_reqSyncFn (s := { s with inp := rest, out := [] }) hph b).trans
    (fetchRequestFunction_fixed (syncAccept_of_requestLayout hw (mem_layouts_of_fixed hb)) hb))

/-- R130 for a function byte of format REQ_VAR. -/
theorem step_varHeader (hph : s.ph = .reqSyncFn) (hb : b ∈ ([15, 16] : List Byte)) :
    step s = .next { accepted .req b { s with inp := rest, out := [] } with need := 5, ph := .reqPrefix } :=
  step_byte_of_more hw (by simp [hph]) hi ((fetchByte_reqSyncFn (s := { s with inp := rest, out := [] }) hph b).trans
    (fetchRequestFunction_var (syncAccept_of_requestLayout hw (mem_layouts_of_var hb)) hb))

/-- R118 in response position. -/
theorem step_responseHeader (hph : s.ph = .rspSyncFn) (hb : syncAccept s.cfg b = true) :
    step s = .next { accepted .rsp b { s with inp := rest, out := [] } with ph := .rspBc } :=
  step_byte_of_more hw (by simp [hph]) hi
    ((fetchByte_rspSyncFn (s := { s with inp := rest, out := [] }) hph b).trans (fetchResponseFunction_accepted hb))

end

/-- Settles O13: R130's three cases of an accepted function byte, and R119 for the others. -/
theorem requestFunctionByte : Obligations.RequestFunctionByte := by
  intro s f rest hw hph hlen hslave hi
  refine ⟨fun hf => ?_, fun hf => ?_, fun hf => ?_, fun hf => ?_⟩
  · exact ⟨_, step_fixedHeader hw hi hph hf, stored_of_fb_eq_writeByte rfl, rfl⟩
  · exact ⟨_, step_varHeader hw hi hph hf, stored_of_fb_eq_writeByte rfl, rfl⟩
  · have hbare : f ∈ bareFns s.cfg := List.mem_cons.mpr hf
    rw [step_unsupported hw hi hph hlen hslave hbare]
    exact congrArg _ (takeFailure_frame _ { s with inp := rest, out := [.header .req f s.skipped], fn := f } _ _)
  · exact step_skipCandidate (d := .req) hw hi hph hlen hslave (decide_eq_false hf)

/-- Settles O14: R118 for an accepted function byte, R119 for the others. -/
theorem responseFunctionByte : Obligations.ResponseFunctionByte := by
  intro s f rest hw hph hlen hslave hi
  refine ⟨fun hf => ?_, fun hf => ?_⟩
  · exact ⟨_, step_responseHeader hw hi hph (decide_eq_true hf), stored_of_fb_eq_writeByte rfl, rfl⟩
  · exact step_skipCandidate (d := .rsp) hw hi hph hlen hslave (decide_eq_false hf)

/-- Settles O19: the three ways in which a byte ends an instruction, each the equation of its phase. -/
theorem stepRunsDecodedInstruction : Obligations.StepRunsDecodedInstruction := by
  intro s d b rest frame i hw hi hread hdec
  refine ⟨fun hph hneed hlen => ?_, fun hph hb => ?_, fun hph hd hlen hacc hb => ?_⟩
  · exact ⟨_, step_body_last hw hi hph hlen hneed hread hdec, stored_stored .., by simp [stored, hneed]⟩
  · have hcandidate : s.ph = candidatePhase d := by
      simp only [List.mem_cons, Prod.mk.injEq, List.not_mem_nil, or_false] at hph
      rcases hph with ⟨hph, rfl⟩ | ⟨hph, rfl⟩ <;> exact hph
    exact step_rejected hw hi hcandidate hread hb hdec
  · subst hd
    exact ⟨_, step_bareHeader hw hi hph hlen hread hacc hb hdec, stored_of_fb_eq_writeByte rfl, rfl⟩

end Sys2Proof.Machine

/-! # Whole frames, by running the steps (42_request_parser.md section 3, 43_response_parser.md section 2)

A run over a frame is the two steps of its header, for a response the byte after it, and one induction over the bytes that a phase
still needs. `holding` is the state between two bytes. -/

namespace Sys2Proof.Machine

/-! ### Runs -/

/-- `n` steps. -/
def runSteps : Nat → State → Result State
  | 0, s => .next s
  | n + 1, s => andThen (step s) (runSteps n)

theorem run_succ_next (M : Host.Core) {n : Nat} {s t : M.State} (h : M.step s = .next t) : M.run (n + 1) s = M.run n t := by
  rw [Host.Core.run, h]

theorem run_succ_fault (M : Host.Core) {n : Nat} {s : M.State} {r : M.Fault} (h : M.step s = .fault r) :
    M.run (n + 1) s = .fault r := by
  rw [Host.Core.run, h]

theorem run_succ_refused (M : Host.Core) {n : Nat} {s : M.State} {r : M.Refusal} (h : M.step s = .refused r) :
    M.run (n + 1) s = .refused r := by
  rw [Host.Core.run, h]

theorem core_run_eq (n : Nat) (s : State) : Host.Core.run Sys2Proof.core n s = runSteps n s := by
  induction n generalizing s with
  | zero => rfl
  | succ n ih =>
    cases h : step s with
    | next t => exact (run_succ_next Sys2Proof.core h).trans ((ih t).trans (by rw [runSteps, h, andThen_of_next]))
    | fault f => exact (run_succ_fault Sys2Proof.core h).trans (by rw [runSteps, h]; rfl)
    | refused r => exact (run_succ_refused Sys2Proof.core h).trans (by rw [runSteps, h]; rfl)

theorem runSteps_of_step {s t : State} (h : step s = .next t) (n : Nat) : runSteps (n + 1) s = runSteps n t := by
  rw [runSteps, h, andThen_of_next]

theorem runSteps_one (s : State) : runSteps 1 s = step s := by
  rw [runSteps]
  cases step s <;> rfl

/-! ### Between two bytes -/

/-- A block that has collected some bytes, needs some more and has events to take. -/
def holding (bytes : List Byte) (need : Nat) (inp : List InEvent) (out : List OutEvent) (s : State) : State :=
  { s with inp := inp, out := out, fb := cellsFrom 0 bytes, len := bytes.length, need := need }

theorem stored_holding (b : Byte) (bytes : List Byte) (need : Nat) (inp : List InEvent) (out : List OutEvent) (s : State) :
    stored b (holding bytes need inp out s) = holding (bytes ++ [b]) (need - 1) inp out s := by
  have hwrite := writeByte_cellsFrom 0 bytes b
  rw [Nat.zero_add] at hwrite
  simp [stored, holding, hwrite]

/-- The bytes of a sequence, as they arrive. -/
def arriving (bytes : List Byte) (rest : List InEvent) : List InEvent := bytes.map .byte ++ rest

section
variable {s : State} (hw : s.cfg.wf = true)
include hw

theorem step_holding_body {d : Dir} (hph : (s.ph, d) ∈ bodyPhases) (b : Byte) {n : Nat} {pre : List Byte} (inp : List InEvent)
    (out : List OutEvent) (hlen : pre.length < 264) :
    step (holding pre (n + 2) (.byte b :: inp) out s) = .next (holding (pre ++ [b]) (n + 1) inp [] s) :=
  (step_body_more (s := holding pre (n + 2) (.byte b :: inp) out s) hw rfl hph hlen (Nat.lt_add_left n (by decide))).trans
    (congrArg _ (stored_holding b pre (n + 2) inp [] s))

theorem step_holding_body_last {d : Dir} {i : Instr} (hph : (s.ph, d) ∈ bodyPhases) (b : Byte) {pre : List Byte}
    (inp : List InEvent) (out : List OutEvent) (hlen : pre.length < 264)
    (hdec : decode s.cfg (.frame d (pre ++ [b])) = .ok (i, [])) :
    step (holding pre 1 (.byte b :: inp) out s) = exec i (holding (pre ++ [b]) 0 inp [] s) :=
  (step_body_last (s := holding pre 1 (.byte b :: inp) out s) hw rfl hph hlen rfl (readFrame_cellsFrom pre) hdec).trans
    (congrArg (exec i) (stored_holding b pre 1 inp [] s))

theorem step_holding_reqPrefix (hph : s.ph = .reqPrefix) (b : Byte) {n : Nat} {pre : List Byte} (inp : List InEvent)
    (out : List OutEvent) (hlen : pre.length < 264) :
    step (holding pre (n + 2) (.byte b :: inp) out s) = .next (holding (pre ++ [b]) (n + 1) inp [] s) :=
  (step_reqPrefix_more (s := holding pre (n + 2) (.byte b :: inp) out s) hw rfl hph hlen (Nat.lt_add_left n (by decide))).trans
    (congrArg _ (stored_holding b pre (n + 2) inp [] s))

theorem step_holding_reqPrefix_last (hph : s.ph = .reqPrefix) (bc : Byte) {pre : List Byte} (inp : List InEvent)
    (out : List OutEvent) (hlen : pre.length = 6) :
    step (holding pre 1 (.byte bc :: inp) out s)
      = .next (holding (pre ++ [bc]) (bc.toNat + 2) inp [] { s with ph := .reqBody }) :=
  (step_reqPrefix_last (s := holding pre 1 (.byte bc :: inp) out s) hw rfl hph hlen rfl).trans
    (congrArg (fun t : State => Host.Outcome.next { t with need := bc.toNat + 2, ph := .reqBody })
      (stored_holding bc pre 1 inp [] s))

/-- The bytes of a body phase, one a step: the last one executes what they all decode to. -/
theorem runSteps_body {d : Dir} {i : Instr} {rest : List InEvent} (hph : (s.ph, d) ∈ bodyPhases) {bytes : List Byte}
    (hne : bytes ≠ []) {pre : List Byte} (out : List OutEvent) (hlen : pre.length + bytes.length ≤ 264)
    (hdec : decode s.cfg (.frame d (pre ++ bytes)) = .ok (i, [])) :
    runSteps bytes.length (holding pre bytes.length (arriving bytes rest) out s) = exec i (holding (pre ++ bytes) 0 rest [] s) := by
  induction bytes generalizing pre out with
  | nil => exact absurd rfl hne
  | cons b more ih =>
    rw [List.length_cons] at hlen
    cases more with
    | nil => exact (runSteps_one _).trans (step_holding_body_last hw hph b rest out (by omega) hdec)
    | cons c more =>
      have hnext : pre ++ b :: c :: more = (pre ++ [b]) ++ c :: more := by simp
      rw [hnext] at hdec ⊢
      have hstep := step_holding_body hw hph b (n := more.length) (arriving (c :: more) rest) out (pre := pre) (by omega)
      refine (runSteps_of_step hstep _).trans (ih (List.cons_ne_nil c more) [] ?_ hdec)
      rw [List.length_append, List.length_singleton]
      omega

/-- The bytes before the byte count of a function 15 or 16 request, and the byte count (R142). -/
theorem runSteps_reqPrefix {rest : List InEvent} (hph : s.ph = .reqPrefix) (more : List Byte) (bc : Byte) {pre : List Byte}
    (out : List OutEvent) (hlen : pre.length + more.length = 6) (n : Nat) :
    runSteps (n + (more.length + 1)) (holding pre (more.length + 1) (arriving (more ++ [bc]) rest) out s)
      = runSteps n (holding (pre ++ (more ++ [bc])) (bc.toNat + 2) rest [] { s with ph := .reqBody }) := by
  induction more generalizing pre out with
  | nil => exact runSteps_of_step (step_holding_reqPrefix_last hw hph bc rest out hlen) n
  | cons c more ih =>
    have hnext : pre ++ (c :: more ++ [bc]) = (pre ++ [c]) ++ (more ++ [bc]) := by simp
    rw [List.length_cons] at hlen
    have hstep := step_holding_reqPrefix hw hph c (n := more.length) (arriving (more ++ [bc]) rest) out (pre := pre) (by omega)
    rw [hnext]
    refine (runSteps_of_step hstep _).trans (ih [] ?_)
    rw [List.length_append, List.length_singleton]
    omega

end

/-! ### The header (R117, R118, R130, R157) -/

section
variable {s : State} (hw : s.cfg.wf = true) (hfb : s.fb = [])
include hw hfb

/-- The slave byte of a header search with an empty buffer. -/
theorem step_slave {d : Dir} {inp : List InEvent} (hph : s.ph = searchPhase d) (hi : s.inp = .byte s.cfg.expectedSlave :: inp) :
    step s = .next (holding [s.cfg.expectedSlave] s.need inp [] { s with ph := candidatePhase d }) := by
  have hrunning : s.ph ≠ .halted := by cases d <;> simp [hph, searchPhase]
  have hfetch := (fetchByte_search (s := { s with inp := inp, out := [] }) hph s.cfg.expectedSlave).trans (fetchSlave_found rfl)
  rw [step_byte_of_more hw hrunning hi hfetch, hfb]
  rfl

theorem runSteps_fixedHeader {f : Byte} {inp : List InEvent} (hph : s.ph = .reqSyncId)
    (hi : s.inp = .byte s.cfg.expectedSlave :: .byte f :: inp) (hf : f ∈ ([1, 2, 3, 4, 5, 6] : List Byte)) (n : Nat) :
    runSteps (n + 2) s
      = runSteps n (holding [s.cfg.expectedSlave, f] 6 inp [.header .req f s.skipped] { s with ph := .reqBody, fn := f }) :=
  (runSteps_of_step (step_slave (d := .req) hw hfb hph hi) (n + 1)).trans
    (runSteps_of_step (step_fixedHeader (s := holding [s.cfg.expectedSlave] s.need (.byte f :: inp) [] { s with ph := .reqSyncFn })
      hw rfl rfl hf) n)

theorem runSteps_varHeader {f : Byte} {inp : List InEvent} (hph : s.ph = .reqSyncId)
    (hi : s.inp = .byte s.cfg.expectedSlave :: .byte f :: inp) (hf : f ∈ ([15, 16] : List Byte)) (n : Nat) :
    runSteps (n + 2) s
      = runSteps n (holding [s.cfg.expectedSlave, f] 5 inp [.header .req f s.skipped] { s with ph := .reqPrefix, fn := f }) :=
  (runSteps_of_step (step_slave (d := .req) hw hfb hph hi) (n + 1)).trans
    (runSteps_of_step (step_varHeader (s := holding [s.cfg.expectedSlave] s.need (.byte f :: inp) [] { s with ph := .reqSyncFn })
      hw rfl rfl hf) n)

/-- A response's header and the byte after it. -/
theorem runSteps_responseHeader {f b : Byte} {inp : List InEvent} (hph : s.ph = .rspSyncId)
    (hi : s.inp = .byte s.cfg.expectedSlave :: .byte f :: .byte b :: inp) (hf : syncAccept s.cfg f = true) (n : Nat) :
    runSteps (n + 3) s
      = runSteps n (holding [s.cfg.expectedSlave, f, b] (if exceptionFlag f then 2 else b.toNat + 2) inp []
          { s with ph := if exceptionFlag f then .rspExc else .rspBody, fn := f }) := by
  have hthird := step_byte_of_more (s := holding [s.cfg.expectedSlave, f] s.need (.byte b :: inp) [.header .rsp f s.skipped]
      { s with ph := .rspBc, fn := f }) hw (by simp [holding]) rfl
    ((fetchByte_rspBc rfl b).trans (fetchByteCount_eq b _))
  exact (runSteps_of_step (step_slave (d := .rsp) hw hfb hph hi) (n + 2)).trans
    ((runSteps_of_step (step_responseHeader
      (s := holding [s.cfg.expectedSlave] s.need (.byte f :: .byte b :: inp) [] { s with ph := .rspSyncFn }) hw rfl rfl hf)
      (n + 1)).trans (runSteps_of_step hthird n))

end

/-! ### Whole frames -/

theorem decode_requestFrame {cfg : Config} (hcfg : cfg.wf = true) {i : Instr} {frame : List Byte} (h : RequestFrame cfg i frame) :
    decode cfg (.frame .req frame) = .ok (i, []) := by
  have hdec := decode_of_requestFrame hcfg h []
  rwa [List.append_nil] at hdec

theorem decode_responseFrame {cfg : Config} (hcfg : cfg.wf = true) {i : Instr} {frame : List Byte} (h : ResponseFrame cfg i frame) :
    decode cfg (.frame .rsp frame) = .ok (i, []) := by
  have hdec := decode_of_responseFrame hcfg h []
  rwa [List.append_nil] at hdec

/-- A frame that decodes has one header, read in this order. -/
theorem arriving_frameOf (cfg : Config) (f : Byte) (body : List Byte) (crc : Half) (rest : List InEvent) :
    (frameOf cfg f body crc).map .byte ++ rest
      = .byte cfg.expectedSlave :: .byte f :: arriving (body ++ crcBytes crc) rest := by
  simp [frameOf_eq, arriving]

/-- A sequence ends with its last byte, so the bytes up to a CRC are never none. -/
theorem append_crcBytes_ne_nil (bytes : List Byte) (crc : Half) : bytes ++ crcBytes crc ≠ [] := by
  simp [crcBytes]

theorem runSteps_fixedRequest {s : State} {f : Byte} {mk : Half → Byte → Byte → Half → Instr} {addr : Half} {p2 p3 : Byte}
    {crc : Half} {rest : List InEvent} (hw : s.cfg.wf = true) (hmk : fixedRequest f = some mk) (hph : s.ph = .reqSyncId)
    (hfb : s.fb = []) (hi : s.inp = (frameOf s.cfg f (fixedBody addr p2 p3) crc).map .byte ++ rest) :
    runSteps (frameOf s.cfg f (fixedBody addr p2 p3) crc).length s = exec (mk addr p2 p3 crc)
      (holding (frameOf s.cfg f (fixedBody addr p2 p3) crc) 0 rest [] { s with ph := .reqBody, fn := f }) := by
  rw [arriving_frameOf] at hi
  have hbody := runSteps_body (s := { s with ph := .reqBody, fn := f }) (d := .req) (rest := rest) hw (by simp [bodyPhases])
    (append_crcBytes_ne_nil (fixedBody addr p2 p3) crc) (pre := [s.cfg.expectedSlave, f]) [.header .req f s.skipped]
    (by simp [fixedBody, crcBytes]) (decode_requestFrame hw (.fixed hmk addr p2 p3 crc))
  exact (runSteps_fixedHeader hw hfb hph hi (fixedRequest_eq_some hmk) 6).trans hbody

theorem runSteps_varRequest {s : State} {f : Byte} {mk : Half → Half → List Byte → Half → Instr} {addr q : Half}
    {data : List Byte} {crc : Half} {rest : List InEvent} (hw : s.cfg.wf = true) (hmk : varRequest f = some mk)
    (hlen : data.length ≤ 255) (hph : s.ph = .reqSyncId) (hfb : s.fb = [])
    (hi : s.inp = (frameOf s.cfg f (varBody addr q data) crc).map .byte ++ rest) :
    runSteps (frameOf s.cfg f (varBody addr q data) crc).length s = exec (mk addr q data crc)
      (holding (frameOf s.cfg f (varBody addr q data) crc) 0 rest [] { s with ph := .reqBody, fn := f }) := by
  rw [arriving_frameOf] at hi
  have hframe : (frameOf s.cfg f (varBody addr q data) crc).length = (data ++ crcBytes crc).length + 5 + 2 := rfl
  have hcount : (BitVec.ofNat 8 data.length).toNat + 2 = (data ++ crcBytes crc).length := by
    rw [toNat_ofNat_length hlen, List.length_append]
    rfl
  have hheader := runSteps_varHeader hw hfb hph hi (varRequest_eq_some hmk) ((data ++ crcBytes crc).length + 5)
  have hcounted := runSteps_reqPrefix (s := { s with ph := .reqPrefix, fn := f }) (rest := arriving (data ++ crcBytes crc) rest) hw rfl
    [hiByte addr, loByte addr, hiByte q, loByte q] (BitVec.ofNat 8 data.length) (pre := [s.cfg.expectedSlave, f])
    [.header .req f s.skipped] rfl (data ++ crcBytes crc).length
  have hbody := runSteps_body (s := { s with ph := .reqBody, fn := f }) (d := .req) (rest := rest) hw (by simp [bodyPhases])
    (append_crcBytes_ne_nil data crc)
    (pre := [s.cfg.expectedSlave, f, hiByte addr, loByte addr, hiByte q, loByte q, BitVec.ofNat 8 data.length]) []
    (by simp [crcBytes]; omega) (decode_requestFrame hw (.var hmk addr q data crc hlen))
  rw [hcount] at hcounted
  rw [hframe]
  exact hheader.trans (hcounted.trans hbody)

/-- Settles O20: a request of more than a header is of one of the two layouts, and a run over either is the run over its parts. -/
theorem requestFrameRuns : Obligations.RequestFrameRuns := by
  intro s i frame rest hw hwf henc hlen hph hfb hi
  rw [core_run_eq]
  cases requestFrame_of_encode hw hwf henc with
  | fixed hmk => exact runSteps_fixedRequest hw hmk hph hfb hi
  | var hmk _ _ _ _ hdata => exact runSteps_varRequest hw hmk hdata hph hfb hi
  | bare _ => simp [bareFrame] at hlen
  | noise _ => simp [bareFrame] at hlen

section
variable {s : State} {f : Byte} {crc : Half} {rest : List InEvent} (hw : s.cfg.wf = true) (hph : s.ph = .rspSyncId)
  (hfb : s.fb = [])
include hw hph hfb

theorem runSteps_normalResponse {mk : List Byte → Half → Instr} {payload : List Byte} (hmk : normalResponse s.cfg f = some mk)
    (hlen : payload.length ≤ 255) (hi : s.inp = (frameOf s.cfg f (normalBody payload) crc).map .byte ++ rest) :
    runSteps (frameOf s.cfg f (normalBody payload) crc).length s = exec (mk payload crc)
      (holding (frameOf s.cfg f (normalBody payload) crc) 0 rest []
        { s with ph := if exceptionFlag f then .rspExc else .rspBody, fn := f }) := by
  rw [arriving_frameOf] at hi
  have hknown := normalResponse_eq_some hmk
  have hcount : (BitVec.ofNat 8 payload.length).toNat + 2 = (payload ++ crcBytes crc).length := by
    rw [toNat_ofNat_length hlen, List.length_append]
    rfl
  have hframe : (frameOf s.cfg f (normalBody payload) crc).length = (payload ++ crcBytes crc).length + 3 := rfl
  have hheader := runSteps_responseHeader hw hfb hph hi ((syncAccept_iff hw f).mpr (.inl hknown)) (payload ++ crcBytes crc).length
  have hbody := runSteps_body (s := { s with ph := .rspBody, fn := f }) (d := .rsp) (rest := rest) hw (by simp [bodyPhases])
    (append_crcBytes_ne_nil payload crc) (pre := [s.cfg.expectedSlave, f, BitVec.ofNat 8 payload.length]) []
    (by simp [crcBytes]; omega) (decode_responseFrame hw (.normal hmk payload crc hlen))
  have hflag : exceptionFlag f = false := exceptionFlag_of_le (knownFn_le hw hknown)
  simp only [hflag, Bool.false_eq_true, if_false, hcount] at hheader ⊢
  rw [hframe]
  exact hheader.trans hbody

theorem runSteps_exceptionResponse {mk : Byte → Half → Instr} {err : Byte} (hmk : exceptionResponse s.cfg f = some mk)
    (hi : s.inp = (frameOf s.cfg f [err] crc).map .byte ++ rest) :
    runSteps (frameOf s.cfg f [err] crc).length s = exec (mk err crc)
      (holding (frameOf s.cfg f [err] crc) 0 rest [] { s with ph := if exceptionFlag f then .rspExc else .rspBody, fn := f }) := by
  rw [arriving_frameOf] at hi
  have hknown := exceptionResponse_eq_some hmk
  have hheader := runSteps_responseHeader hw hfb hph hi ((syncAccept_iff hw f).mpr (.inr hknown)) 2
  have hbody := runSteps_body (s := { s with ph := .rspExc, fn := f }) (d := .rsp) (rest := rest) hw (by simp [bodyPhases])
    (append_crcBytes_ne_nil [] crc) (pre := [s.cfg.expectedSlave, f, err]) [] (by simp [crcBytes])
    (decode_responseFrame hw (.exception hmk err crc))
  obtain ⟨c, -, rfl⟩ := List.mem_map.mp hknown
  rw [if_pos (exceptionFlag_flagged c)] at hheader ⊢
  rw [if_pos (exceptionFlag_flagged c)] at hheader
  exact hheader.trans hbody

end

/-- Settles O21: a response of more than a header is normal or an exception, and a run over either is the run over its parts. -/
theorem responseFrameRuns : Obligations.ResponseFrameRuns := by
  intro s i frame rest hw hwf henc hlen hph hfb hi
  rw [core_run_eq]
  cases responseFrame_of_encode hw hwf henc with
  | normal hmk _ _ hcount => exact runSteps_normalResponse hw hph hfb hmk hcount hi
  | exception hmk => exact runSteps_exceptionResponse hw hph hfb hmk hi
  | noise _ => simp [bareFrame] at hlen

end Sys2Proof.Machine

/-! # Failures and system events (60_exceptions.md, 45_transaction_sequencer.md R215 to R218)

Failure entry as two equations, and what each event that is no byte does in each phase. -/

namespace Sys2Proof.Machine

/-! ### Failure entry (R250) -/

theorem takeFailure_live {info : FailInfo} {s : State} (hlive : s.cfg.isLive = true) (hcause : info.cause.recoverable = true) :
    takeFailure info s = { s with
      failCause := info.cause, failPh := s.ph, fb := [], len := 0, need := 0, ph := .resync,
      out := s.out ++ [.fail info.cause info, .quietArm] } := by
  simp [takeFailure, hlive, hcause, recordFailure, emit]

theorem takeFailure_halts {info : FailInfo} {s : State} (h : s.cfg.isLive = false ∨ info.cause.recoverable = false) :
    takeFailure info s = { s with
      failCause := info.cause, failPh := s.ph, fb := [], len := 0, need := 0, ph := .halted, haltCause := info.cause,
      out := s.out ++ [.fail info.cause info, .halt info.cause] } := by
  rcases h with h | h <;> simp [takeFailure, h, recordFailure, emit]

/-- Failure entry for a cause with a live branch. -/
theorem takeFailure_recoverable {info : FailInfo} (s : State) (hcause : info.cause.recoverable = true) :
    takeFailure info s = if s.cfg.isLive then
        { s with failCause := info.cause, failPh := s.ph, fb := [], len := 0, need := 0, ph := .resync,
                 out := s.out ++ [.fail info.cause info, .quietArm] }
      else
        { s with failCause := info.cause, failPh := s.ph, fb := [], len := 0, need := 0, ph := .halted,
                 haltCause := info.cause, out := s.out ++ [.fail info.cause info, .halt info.cause] } := by
  split
  next hlive => exact takeFailure_live hlive hcause
  next hlive => exact takeFailure_halts (.inl (by simpa using hlive))

/-- Settles O37: all three causes have a live branch, so `IS_LIVE` chooses. -/
theorem failureEntry : Obligations.FailureEntry := by
  intro s info cause hinfo
  obtain ⟨rfl, hcause⟩ : info.cause = cause ∧ info.cause.recoverable = true := by
    rcases hinfo with ⟨_, _, _, rfl, rfl⟩ | ⟨_, _, rfl, rfl⟩ | ⟨_, rfl, rfl⟩ <;> exact ⟨rfl, rfl⟩
  exact ⟨fun hlive => takeFailure_live hlive hcause, fun hcapture => takeFailure_halts (.inl hcapture)⟩

/-! ### Events that are no byte, by phase -/

theorem onShort_inside {s : State} (hph : insideFrame s.ph = true) : onShort s = takeFailure (.shortRead s.ph s.len s.need) s := by
  unfold onShort
  cases h : s.ph <;> simp [h, insideFrame] at hph ⊢

theorem onShort_searching {s : State} (hph : searching s.ph = true) : onShort s = loseSync s := by
  unfold onShort
  cases h : s.ph <;> simp [h, searching] at hph ⊢

theorem insideFrame_not_halted {p : Phase} (h : insideFrame p = true) : p ≠ .halted := by
  rintro rfl
  cases h

theorem searching_not_halted {p : Phase} (h : searching p = true) : p ≠ .halted := by
  rintro rfl
  cases h

theorem takeEvent_short {s : State} (hph : s.ph ≠ .halted) : takeEvent .short s = .next (onShort s) := if_neg hph

theorem takeEvent_ioErr {s : State} (hph : s.ph ≠ .halted) : takeEvent .ioErr s = .next (takeFailure (.ioError s.ph) s) := if_neg hph

/-- R265, and R217 for `Quiet` after a halt. -/
theorem takeEvent_quiet_ignored {s : State} (hph : s.ph ≠ .resync) : takeEvent .quiet s = .next s := by
  simp [takeEvent, onQuiet, hph]

/-- R217. -/
theorem takeEvent_halted {s : State} {ev : InEvent} (hph : s.ph = .halted) (hev : ev ≠ .reset) : takeEvent ev s = .next s := by
  cases ev with
  | reset => exact absurd rfl hev
  | byte b => exact if_pos hph
  | short => exact if_pos hph
  | ioErr => exact if_pos hph
  | quiet => exact if_pos hph

/-- Settles O38: `Short` inside a frame is failure entry, and `ShortRead` has a live branch. -/
theorem shortInsideFrame : Obligations.ShortInsideFrame := by
  intro s rest hw hph hi
  have hinside : insideFrame s.ph = true := by
    simp only [List.mem_cons, List.not_mem_nil, or_false] at hph
    rcases hph with h | h | h | h | h <;> rw [h] <;> rfl
  refine (stepBlock_event hw hi).trans ((takeEvent_short (s := { s with inp := rest, out := [] }) (insideFrame_not_halted hinside)).trans
    (congrArg _ ?_))
  exact (onShort_inside (s := { s with inp := rest, out := [] }) hinside).trans (takeFailure_recoverable _ rfl)

/-- Settles O39: `Short` in a search is failure entry for `SyncLost`, which has no live branch. -/
theorem shortInSearchHalts : Obligations.ShortInSearchHalts := by
  intro s rest hw hph hi
  have hsearch : searching s.ph = true := by
    simp only [List.mem_cons, List.not_mem_nil, or_false] at hph
    rcases hph with h | h | h | h <;> rw [h] <;> rfl
  refine (stepBlock_event hw hi).trans ((takeEvent_short (s := { s with inp := rest, out := [] }) (searching_not_halted hsearch)).trans
    (congrArg _ ?_))
  refine (onShort_searching (s := { s with inp := rest, out := [] }) hsearch).trans ((takeFailure_halts (.inr rfl)).trans ?_)
  simp [cleanEnd, FailInfo.cause]

/-- Settles O40: `IOError` has no live branch either. -/
theorem hardErrorHalts : Obligations.HardErrorHalts := by
  intro s rest hw hph hi
  refine (stepBlock_event hw hi).trans ((takeEvent_ioErr (s := { s with inp := rest, out := [] }) hph).trans (congrArg _ ?_))
  exact takeFailure_halts (.inr rfl)

/-- Settles O42, by the rules of the events in `RESYNC` and of `Quiet` outside it. -/
theorem eventsWithoutEffect : Obligations.EventsWithoutEffect := by
  intro s rest hw
  refine ⟨fun b hph hi => ?_, fun hph hi => ?_, fun hph hi => ?_⟩
  · exact (stepBlock_event hw hi).trans (takeEvent_byte_resync (s := { s with inp := rest, out := [] }) hph b)
  · exact (stepBlock_event hw hi).trans (takeEvent_short_resync (s := { s with inp := rest, out := [] }) hph)
  · exact (stepBlock_event hw hi).trans (takeEvent_quiet_ignored (s := { s with inp := rest, out := [] }) hph)

/-- Settles O43: R216 asks for `Reset` first, then for `HALTED`. -/
theorem haltedAbsorbsAndResetClears : Obligations.HaltedAbsorbsAndResetClears := by
  intro s ev rest hw hi
  refine ⟨fun hph hev => ?_, fun hev => ?_⟩
  · exact (stepBlock_event hw hi).trans (takeEvent_halted hph hev)
  · subst hev
    exact stepBlock_event hw hi

theorem step_waits {s : State} (hw : s.cfg.wf = true) (hi : s.inp = []) : step s = .next { s with out := [] } := by
  simp [step, stepBlock, hw, hi]

theorem step_refused {s : State} (hw : s.cfg.wf = false) : step s = .refused .illFormedConfig := by
  simp [step, stepBlock, hw]

/-- Settles O44. -/
theorem waitingAndRefusal : Obligations.WaitingAndRefusal :=
  fun _ => ⟨step_waits, step_refused⟩

/-- A step after a halt. -/
theorem step_halted {s : State} {ev : InEvent} {rest : List InEvent} (hw : s.cfg.wf = true) (hph : s.ph = .halted)
    (hi : s.inp = ev :: rest) (hev : ev ≠ .reset) : step s = .next { s with inp := rest, out := [] } :=
  (stepBlock_event hw hi).trans (takeEvent_halted hph hev)

/-- Settles O57, by induction on the events: each is absorbed. -/
theorem haltIsFinal : Obligations.HaltIsFinal := by
  intro s evs rest hw hph hne hreset hi
  rw [core_run_eq]
  induction evs generalizing s with
  | nil => exact absurd rfl hne
  | cons ev more ih =>
    obtain ⟨hev, hmore⟩ := not_or.mp (mt List.mem_cons.mpr hreset)
    have hstep := step_halted hw hph hi (Ne.symm hev)
    rw [List.length_cons, runSteps_of_step hstep]
    by_cases hnil : more = []
    · subst hnil
      rfl
    · exact ih { s with inp := more ++ rest, out := [] } hw hph hnil hmore rfl

end Sys2Proof.Machine

/-! # What each instruction does (42_request_parser.md section 4, 43_response_parser.md sections 3 to 5, 44_register_decoder.md
section 4)

Each row is one of the shared completions at its function byte; the completions themselves are the equations of `Laws/Ops`. -/

namespace Sys2Proof.Machine

/-- Settles O23: every row is the completion at its function byte and its body, valid or not. -/
theorem requestCompletion : Obligations.RequestCompletion := by
  intro s a q p2 p3 data crc i f bc body hrow
  have hexec : exec i s = .next (completeRequest f a bc body crc s) := by
    simp only [List.mem_cons, Prod.mk.injEq, List.not_mem_nil, or_false] at hrow
    rcases hrow with ⟨rfl, rfl, rfl, rfl⟩ | ⟨rfl, rfl, rfl, rfl⟩ | ⟨rfl, rfl, rfl, rfl⟩ | ⟨rfl, rfl, rfl, rfl⟩ |
      ⟨rfl, rfl, rfl, rfl⟩ | ⟨rfl, rfl, rfl, rfl⟩ | ⟨rfl, rfl, rfl, rfl⟩ | ⟨rfl, rfl, rfl, rfl⟩ <;> rfl
  rw [hexec]
  exact ⟨fun h => congrArg _ (completeRequest_valid h), fun h => congrArg _ (completeRequest_invalid h)⟩

/-- Settles O24: every row is the failure for its function byte, which has a live branch. -/
theorem unsupportedRequestsFail : Obligations.UnsupportedRequestsFail := by
  intro s i f hrow
  have hexec : exec i s = .next (takeFailure (.unsupportedFunction f) s) := by
    simp only [List.mem_cons, Prod.mk.injEq, List.not_mem_nil, or_false] at hrow
    rcases hrow with ⟨rfl, rfl⟩ | ⟨rfl, rfl⟩ | ⟨rfl, rfl⟩ | ⟨rfl, rfl⟩ | ⟨rfl, rfl⟩ | ⟨rfl, rfl⟩ | ⟨rfl, rfl⟩ | ⟨rfl, rfl⟩ |
      ⟨rfl, rfl⟩ | ⟨rfl, rfl⟩ <;> rfl
  exact hexec.trans (congrArg _ (takeFailure_recoverable s rfl))

/-- Settles O25: every row is the completion at its function byte and its payload, valid or not. -/
theorem normalResponseCompletion : Obligations.NormalResponseCompletion := by
  intro s payload crc i f hrow
  have hexec : exec i s = .next (completeNormal f payload crc s) := by
    simp only [List.mem_cons, Prod.mk.injEq, List.not_mem_nil, or_false] at hrow
    rcases hrow with ⟨rfl, rfl⟩ | ⟨rfl, rfl⟩ | ⟨rfl, rfl⟩ | ⟨rfl, rfl⟩ | ⟨rfl, rfl⟩ | ⟨rfl, rfl⟩ | ⟨rfl, rfl⟩ | ⟨rfl, rfl⟩ |
      ⟨rfl, rfl⟩ <;> rfl
  rw [hexec]
  exact ⟨fun h => congrArg _ (completeNormal_valid h), fun h => congrArg _ (completeNormal_invalid h)⟩

/-- Settles O26: every row is the completion at its function byte and its error code, valid or not. -/
theorem exceptionResponseCompletion : Obligations.ExceptionResponseCompletion := by
  intro s err crc i f hrow
  have hexec : exec i s = .next (completeException f err crc s) := by
    simp only [List.mem_cons, Prod.mk.injEq, List.not_mem_nil, or_false] at hrow
    rcases hrow with ⟨rfl, rfl⟩ | ⟨rfl, rfl⟩ | ⟨rfl, rfl⟩ | ⟨rfl, rfl⟩ | ⟨rfl, rfl⟩ | ⟨rfl, rfl⟩ | ⟨rfl, rfl⟩ | ⟨rfl, rfl⟩ |
      ⟨rfl, rfl⟩ <;> rfl
  rw [hexec]
  exact ⟨fun h => congrArg _ (completeException_valid h), fun h => congrArg _ (completeException_invalid h)⟩

/-- Settles O27: both rows skip the candidate of their position. -/
theorem noiseIsSkipped : Obligations.NoiseIsSkipped := by
  intro s f i search hrow
  simp only [List.mem_cons, Prod.mk.injEq, List.not_mem_nil, or_false] at hrow
  rcases hrow with ⟨rfl, rfl⟩ | ⟨rfl, rfl⟩
  · exact exec_noiseRow .req f s
  · exact exec_noiseRow .rsp f s

/-! ### The rows of single registers and of low words (R185, R187, R188) -/

theorem runEntry_single (q : Quantity) (signed : Bool) (exp10 : Int) (unit : MeasUnit) (v : Half) (s : State) :
    runEntry (.single q signed exp10 unit) v s = { s with
      out := s.out ++ [.meas q (if signed then v.toInt else (v.toNat : Int)) exp10 unit] } := rfl

theorem runEntry_low (q : Q32) (signed : Bool) (exp10 : Int) (unit : MeasUnit) (v : Half) (s : State) :
    runEntry (.low q signed exp10 unit) v s =
      if perGet s.pend q then { s with
        acc := perSet s.acc q 0
        pend := perSet s.pend q false
        out := s.out ++ [.meas q.toQuantity
          (if signed then (perGet s.acc q + v.setWidth 32).toInt
            else ((perGet s.acc q + v.setWidth 32).toNat : Int)) exp10 unit] }
      else { s with out := s.out ++ [.lowWithoutHigh q] } := rfl

theorem runEntry_low_pending {q : Q32} {s : State} (h : perGet s.pend q = true) (signed : Bool) (exp10 : Int) (unit : MeasUnit)
    (v : Half) :
    runEntry (.low q signed exp10 unit) v s = { s with
      acc := perSet s.acc q 0
      pend := perSet s.pend q false
      out := s.out ++ [.meas q.toQuantity
        (if signed then (perGet s.acc q + v.setWidth 32).toInt
          else ((perGet s.acc q + v.setWidth 32).toNat : Int)) exp10 unit] } :=
  if_pos h

theorem runEntry_low_alone {q : Q32} {s : State} (h : perGet s.pend q = false) (signed : Bool) (exp10 : Int) (unit : MeasUnit)
    (v : Half) : runEntry (.low q signed exp10 unit) v s = { s with out := s.out ++ [.lowWithoutHigh q] } :=
  if_neg (by simp [h])

/-- Settles O28: both rows run the single-register entry of their quantity. -/
theorem singleRegisterRows : Obligations.SingleRegisterRows := by
  intro s v
  exact ⟨congrArg Host.Outcome.next (runEntry_single .energyToday false (-1) .kilowattHour v s),
    congrArg Host.Outcome.next (runEntry_single .battSoc false 0 .percent v s)⟩

/-- Settles O30: both rows run the low-word entry of their quantity, with and without a pending high word. -/
theorem lowWordRows : Obligations.LowWordRows := by
  intro s v
  refine ⟨fun h => ?_, fun h => ?_, fun h => ?_, fun h => ?_⟩
  · exact congrArg Host.Outcome.next (runEntry_low_pending (q := .curGen) h false 0 .watt v)
  · exact congrArg Host.Outcome.next (runEntry_low_alone (q := .curGen) h false 0 .watt v)
  · exact congrArg Host.Outcome.next (runEntry_low_pending (q := .meterTotalP) h true (-3) .kilowatt v)
  · exact congrArg Host.Outcome.next (runEntry_low_alone (q := .meterTotalP) h true (-3) .kilowatt v)

end Sys2Proof.Machine

/-! # The register decoder (44_register_decoder.md R184, R201; 43_response_parser.md R165, R166) -/

namespace Sys2Proof.Machine

/-! ### One sample, by the table's entry (R184) -/

theorem decodeRegister_of_lookupEntry_some {s : State} {addr : Half} {e : Entry} (hw : s.cfg.wf = true)
    (h : lookupEntry s.cfg.regMap addr = some e) (v : Half) : decodeRegister addr v s = runEntry e v s := by
  rcases lookupEntry_cases s.cfg addr with hnone | ⟨e', hmem⟩ | ⟨e', hall, hopen⟩
  · rw [hnone] at h
    cases h
  · have hmin := lookupEntry_of_mem_regMapMin hw hmem
    rw [hmin] at h
    cases h
    simp only [regMapMin, List.mem_cons, Prod.mk.injEq, List.not_mem_nil, or_false] at hmem
    rcases hmem with ⟨rfl, rfl⟩ | ⟨rfl, rfl⟩ | ⟨rfl, rfl⟩ | ⟨rfl, rfl⟩ | ⟨rfl, rfl⟩ | ⟨rfl, rfl⟩ <;>
      rw [decodeRegister, regRow, hmin] <;> rfl
  · rw [hall] at h
    cases h
    rw [decodeRegister, regRow_of_open hall hopen]
    cases e <;> rfl

/-- Settles O32: an entry is run, whichever row its address has. -/
theorem sampleDecodedByTable : Obligations.SampleDecodedByTable := by
  intro s addr value hw
  split
  next h => exact decodeRegister_of_lookupEntry_none h value
  next q signed exp10 unit h =>
    exact (decodeRegister_of_lookupEntry_some hw h value).trans (runEntry_single q signed exp10 unit value s)
  next q h => exact decodeRegister_of_lookupEntry_some hw h value
  next q signed exp10 unit h =>
    exact (decodeRegister_of_lookupEntry_some hw h value).trans (runEntry_low q signed exp10 unit value s)

theorem exec_decodeSample (addr v : Half) (s : State) : exec (decodeSample s.cfg addr v) s = .next (decodeRegister addr v s) := by
  rw [decodeSample, decodeRegister]
  cases regRow s.cfg addr <;> rfl

/-- Settles O33: a sample's row is the decoder's own choice, and each open row runs the entry of its kind. -/
theorem sampleRunsItsRow : Obligations.SampleRunsItsRow := by
  intro s addr value
  refine ⟨exec_decodeSample addr value s, fun q signed exp10 unit => ?_, fun q => ?_, fun q signed exp10 unit => ?_⟩
  · exact congrArg Host.Outcome.next (runEntry_single q signed exp10 unit value s)
  · exact congrArg Host.Outcome.next (runEntry_high q value s)
  · exact congrArg Host.Outcome.next (runEntry_low q signed exp10 unit value s)

/-! ### A payload as samples (R165, R166) -/

theorem joinBytes_eq_ofNat (hi lo : Byte) : joinBytes hi lo = BitVec.ofNat 16 (hi.toNat * 256 + lo.toNat) := by
  apply BitVec.eq_of_toNat_eq
  have hlo : lo.toNat < 256 := lo.isLt
  have hhi : hi.toNat < 256 := hi.isLt
  rw [joinBytes, BitVec.toNat_append, BitVec.toNat_ofNat, ← Nat.shiftLeft_add_eq_or_of_lt lo.isLt, Nat.shiftLeft_eq]
  omega

@[simp] theorem samples_cons_cons (addr : Half) (hi lo : Byte) (rest : List Byte) :
    samples addr (hi :: lo :: rest) = (addr, joinBytes hi lo) :: samples (addr + 1) rest := rfl

/-- Fewer than two bytes are no sample. -/
theorem samples_short (addr : Half) {payload : List Byte} (h : ∀ hi lo rest, payload ≠ hi :: lo :: rest) :
    samples addr payload = [] ∧ payload.length / 2 = 0 := by
  match payload, h with
  | [], _ => exact ⟨rfl, rfl⟩
  | [_], _ => exact ⟨rfl, by simp⟩
  | hi :: lo :: rest, h => exact absurd rfl (h hi lo rest)

theorem length_samples (addr : Half) (payload : List Byte) : (samples addr payload).length = payload.length / 2 := by
  induction addr, payload using samples.induct with
  | case1 addr hi lo rest ih => rw [samples_cons_cons, List.length_cons, ih, List.length_cons, List.length_cons]; omega
  | case2 payload addr h => obtain ⟨hnil, hlen⟩ := samples_short addr h; rw [hnil, hlen]; rfl

theorem getElem?_samples (addr : Half) (payload : List Byte) (i : Nat) (hi : i < payload.length / 2) :
    (samples addr payload)[i]? = some (addr + BitVec.ofNat 16 i, joinBytes (payload.getD (2 * i) 0) (payload.getD (2 * i + 1) 0)) := by
  induction addr, payload using samples.induct generalizing i with
  | case1 addr hi lo rest ih =>
    cases i with
    | zero => simp
    | succ i =>
      have hrest : i < rest.length / 2 := by simp only [List.length_cons] at hi; omega
      have haddr : addr + BitVec.ofNat 16 (i + 1) = addr + 1 + BitVec.ofNat 16 i := by bv_omega
      rw [samples_cons_cons, List.getElem?_cons_succ, ih i hrest, haddr, Nat.mul_succ]
      rfl
  | case2 payload addr h => obtain ⟨-, hlen⟩ := samples_short addr h; omega

/-- Settles O34, by induction over the pairs of the payload. -/
theorem samplesOfAPayload : Obligations.SamplesOfAPayload := by
  intro addr payload
  refine ⟨length_samples addr payload, fun i hi => ?_⟩
  have haddr : addr + BitVec.ofNat 16 i = BitVec.ofNat 16 ((addr.toNat + i) % 65536) := by
    apply BitVec.eq_of_toNat_eq
    simp
  rw [getElem?_samples addr payload i hi, joinBytes_eq_ofNat, haddr]

/-! ### What the decoder leaves alone (R184) -/

/-- Settles O36, by induction over the samples: each changes the accumulator file and adds at most one event. -/
theorem decoderTouchesOnlyAccumulators : Obligations.DecoderTouchesOnlyAccumulators := by
  intro s xs
  induction xs generalizing s with
  | nil => exact ⟨s.acc, s.pend, [], by simp, by simp, by simp⟩
  | cons p rest ih =>
    rw [decodeAll_cons]
    rcases decodeRegister_cases p.1 p.2 s with hsame | ⟨e, hrun⟩
    · obtain ⟨acc, pend, more, heq, hlen, hmore⟩ := ih s
      exact ⟨acc, pend, more, hsame.symm ▸ heq, Nat.le_succ_of_le hlen, hmore⟩
    · obtain ⟨acc, pend, first, hfirst, hone, hevent⟩ := runEntry_cases e p.2 s
      obtain ⟨acc', pend', more, heq, hlen, hmore⟩ := ih { s with acc := acc, pend := pend, out := s.out ++ first }
      refine ⟨acc', pend', first ++ more, ?_, ?_, ?_⟩
      · rw [hrun, hfirst, heq, List.append_assoc]
      · rw [List.length_append, List.length_cons]
        omega
      · exact fun o ho => (List.mem_append.mp ho).elim (hevent o) (hmore o)

end Sys2Proof.Machine

/-! # A pair of registers (44_register_decoder.md R181, R201)

The samples between a high word and its low word commute with the setting of the pair, because no other address concerns it. -/

namespace Sys2Proof

/-! ### The addresses of a quantity (R181 item 3) -/

theorem mem_of_lookupEntry {m : RegMap} {addr : Half} {e : Entry} (h : lookupEntry m addr = some e) : (addr, e) ∈ m := by
  induction m with
  | nil => cases h
  | cons p rest ih =>
    obtain ⟨k, e'⟩ := p
    unfold lookupEntry at h
    split at h
    · next hk => cases h; exact hk ▸ List.mem_cons_self
    · exact List.mem_cons_of_mem _ (ih h)

theorem mem_highAddrs {m : RegMap} {addr : Half} {q : Q32} (h : lookupEntry m addr = some (.high q)) :
    addr.toNat ∈ highAddrs m q :=
  List.mem_map.mpr ⟨_, List.mem_filter.mpr ⟨mem_of_lookupEntry h, decide_eq_true rfl⟩, rfl⟩

theorem mem_lowAddrs {m : RegMap} {addr : Half} {q : Q32} {signed : Bool} {exp10 : Int} {unit : MeasUnit}
    (h : lookupEntry m addr = some (.low q signed exp10 unit)) : addr.toNat ∈ lowAddrs m q :=
  List.mem_map.mpr ⟨_, List.mem_filter.mpr ⟨mem_of_lookupEntry h, decide_eq_true rfl⟩, rfl⟩

theorem pairOk_of_wf {cfg : Config} (hcfg : cfg.wf = true) (q : Q32) : pairOk cfg.regMap q = true := by
  simp only [Config.wf, regMapWf, Bool.and_eq_true] at hcfg
  obtain ⟨⟨⟨-, hpairs⟩, -⟩, -⟩ := hcfg
  exact List.all_eq_true.mp hpairs q (by cases q <;> decide)

/-- A quantity has at most one high-word and one low-word address. -/
theorem length_pairAddrs_le {cfg : Config} (hcfg : cfg.wf = true) (q : Q32) :
    (highAddrs cfg.regMap q).length ≤ 1 ∧ (lowAddrs cfg.regMap q).length ≤ 1 := by
  have h := pairOk_of_wf hcfg q
  unfold pairOk at h
  split at h
  next hhigh hlow => simp [hhigh, hlow]
  next hhigh hlow => simp [hhigh, hlow]
  next => cases h

theorem eq_of_mem_of_length_le_one {α : Type} {xs : List α} {a b : α} (hlen : xs.length ≤ 1) (ha : a ∈ xs) (hb : b ∈ xs) :
    a = b := by
  match xs, hlen with
  | [x], _ => rw [List.mem_singleton.mp ha, List.mem_singleton.mp hb]

theorem highAddr_unique {cfg : Config} (hcfg : cfg.wf = true) {a b : Half} {q : Q32}
    (ha : lookupEntry cfg.regMap a = some (.high q)) (hb : lookupEntry cfg.regMap b = some (.high q)) : a = b :=
  BitVec.eq_of_toNat_eq (eq_of_mem_of_length_le_one (length_pairAddrs_le hcfg q).1 (mem_highAddrs ha) (mem_highAddrs hb))

theorem lowAddr_unique {cfg : Config} (hcfg : cfg.wf = true) {a b : Half} {q : Q32} {signed signed' : Bool} {exp10 exp10' : Int}
    {unit unit' : MeasUnit} (ha : lookupEntry cfg.regMap a = some (.low q signed exp10 unit))
    (hb : lookupEntry cfg.regMap b = some (.low q signed' exp10' unit')) : a = b :=
  BitVec.eq_of_toNat_eq (eq_of_mem_of_length_le_one (length_pairAddrs_le hcfg q).2 (mem_lowAddrs ha) (mem_lowAddrs hb))

/-- The quantity whose pair an entry reads or writes. -/
def Entry.pairOf : Entry → Option Q32
  | .single _ _ _ _ => none
  | .high q => some q
  | .low q _ _ _ => some q

end Sys2Proof

namespace Sys2Proof.Machine

/-! ### Samples of other quantities (R201 item 2) -/

theorem perSet_perSet_other {α : Type} (p : PerQ32 α) {q r : Q32} (x y : α) (h : q ≠ r) :
    perSet (perSet p q x) r y = perSet (perSet p r y) q x := by
  refine perQ32_ext fun k => ?_
  by_cases hq : k = q
  · subst hq
    rw [perGet_perSet_other _ r k y h, perGet_perSet_same, perGet_perSet_same]
  · by_cases hr : k = r
    · subst hr
      rw [perGet_perSet_same, perGet_perSet_other _ q k x hq, perGet_perSet_same]
    · rw [perGet_perSet_other _ r k y hr, perGet_perSet_other _ q k x hq, perGet_perSet_other _ q k x hq,
        perGet_perSet_other _ r k y hr]

/-- An entry of another quantity does not see the pair. -/
theorem runEntry_setPair {e : Entry} {q : Q32} (h : e.pairOf ≠ some q) (v : Half) (a : Word) (p : Bool) (s : State) :
    runEntry e v (setPair q a p s) = setPair q a p (runEntry e v s) := by
  cases e with
  | single q' signed exp10 unit => rfl
  | high r =>
    have hne : q ≠ r := fun hqr => h (congrArg some hqr.symm)
    simp only [runEntry, setPair, perSet_perSet_other _ _ _ hne]
  | low r signed exp10 unit =>
    have hne : q ≠ r := fun hqr => h (congrArg some hqr.symm)
    simp only [runEntry, setPair_pend, setPair_acc, perGet_perSet_other _ q r _ hne.symm]
    split
    · simp only [setPair, emit, perSet_perSet_other _ _ _ hne]
    · rfl

theorem decodeRegister_cfg (addr v : Half) (s : State) : (decodeRegister addr v s).cfg = s.cfg := by
  rcases decodeRegister_cases addr v s with h | ⟨e, h⟩ <;> rw [h]
  obtain ⟨_, _, _, hrun, -⟩ := runEntry_cases e v s
  rw [hrun]

/-- Samples at addresses that do not concern a quantity commute with the setting of its pair. -/
theorem decodeAll_setPair {q : Q32} (xs : List (Half × Half)) {s : State} (hw : s.cfg.wf = true)
    (hother : ∀ p ∈ xs, ∀ e, lookupEntry s.cfg.regMap p.1 = some e → e.pairOf ≠ some q) (a : Word) (p : Bool) :
    decodeAll xs (setPair q a p s) = setPair q a p (decodeAll xs s) := by
  induction xs generalizing s with
  | nil => rfl
  | cons x rest ih =>
    have hcfg := decodeRegister_cfg x.1 x.2 s
    have hfirst : decodeRegister x.1 x.2 (setPair q a p s) = setPair q a p (decodeRegister x.1 x.2 s) := by
      cases hentry : lookupEntry s.cfg.regMap x.1 with
      | none =>
        rw [decodeRegister_of_lookupEntry_none hentry, decodeRegister_of_lookupEntry_none (s := setPair q a p s) hentry]
      | some e =>
        rw [decodeRegister_of_lookupEntry_some hw hentry, decodeRegister_of_lookupEntry_some (s := setPair q a p s) hw hentry]
        exact runEntry_setPair (hother x List.mem_cons_self e hentry) x.2 a p s
    rw [decodeAll_cons, decodeAll_cons, hfirst, ih (hcfg ▸ hw)]
    exact fun y hy e he => hother y (List.mem_cons_of_mem x hy) e (hcfg ▸ he)

/-- R181 item 3: away from a quantity's two addresses no entry concerns it. -/
theorem pairOf_ne_of_other_addr {cfg : Config} (hcfg : cfg.wf = true) {q : Q32} {signed : Bool} {exp10 : Int} {unit : MeasUnit}
    {addr a : Half} (hhigh : lookupEntry cfg.regMap addr = some (.high q))
    (hlow : lookupEntry cfg.regMap (addr + 1) = some (.low q signed exp10 unit)) (ha : a ≠ addr ∧ a ≠ addr + 1) {e : Entry}
    (he : lookupEntry cfg.regMap a = some e) : e.pairOf ≠ some q := by
  cases e with
  | single _ _ _ _ => exact nofun
  | high r => rintro ⟨rfl⟩; exact ha.1 (highAddr_unique hcfg he hhigh)
  | low r _ _ _ => rintro ⟨rfl⟩; exact ha.2 (lowAddr_unique hcfg he hlow)

/-! ### The two words together (R186, R187) -/

theorem highWord_add (hi lo : Half) : highWord hi + lo.setWidth 32 = hi ++ lo := by
  have hhi : hi.toNat < 65536 := hi.isLt
  have hlo : lo.toNat < 65536 := lo.isLt
  rw [highWord_eq_ofNat]
  apply BitVec.eq_of_toNat_eq
  rw [BitVec.toNat_add, BitVec.toNat_ofNat, BitVec.toNat_setWidth, BitVec.toNat_append, ← Nat.shiftLeft_add_eq_or_of_lt lo.isLt,
    Nat.shiftLeft_eq]
  omega

theorem toNat_append_half (hi lo : Half) : (hi ++ lo).toNat = hi.toNat * 65536 + lo.toNat := by
  rw [BitVec.toNat_append, ← Nat.shiftLeft_add_eq_or_of_lt lo.isLt, Nat.shiftLeft_eq]

/-- The low word after its high word. -/
theorem runEntry_low_setPair (q : Q32) (signed : Bool) (exp10 : Int) (unit : MeasUnit) (hi lo : Half) (s : State) :
    runEntry (.low q signed exp10 unit) lo (setPair q (highWord hi) true s) = { s with
      acc := perSet (perSet s.acc q (highWord hi)) q 0
      pend := perSet (perSet s.pend q true) q false
      out := s.out ++ [.meas q.toQuantity
        (if signed then BitVec.toInt (hi ++ lo) else (hi.toNat * 65536 + lo.toNat : Int)) exp10 unit] } := by
  rw [runEntry_low_pending (s := setPair q (highWord hi) true s) (perGet_perSet_same _ _ _)]
  simp only [setPair, perGet_perSet_same, highWord_add, toNat_append_half, Nat.cast_add, Nat.cast_mul, Nat.cast_ofNat]

/-- Settles O35: the pair's setting moves past the samples between, and the low word completes it. -/
theorem pairJoinsAcrossOtherSamples : Obligations.PairJoinsAcrossOtherSamples := by
  intro s q signed exp10 unit addr hi lo between hw hhigh hlow hother
  have hu : (decodeAll between s).cfg = s.cfg := by
    obtain ⟨_, _, _, heq, -⟩ := decoderTouchesOnlyAccumulators s between
    rw [heq]
  have ht : decodeAll ((addr, hi) :: between ++ [(addr + 1, lo)]) s
      = runEntry (.low q signed exp10 unit) lo (setPair q (highWord hi) true (decodeAll between s)) := by
    rw [List.cons_append, decodeAll_cons, decodeAll_append, decodeAll_cons, decodeAll_nil]
    rw [show decodeRegister addr hi s = setPair q (highWord hi) true s from decodeRegister_of_lookupEntry_some hw hhigh hi]
    rw [decodeAll_setPair between hw fun p hp _ he => pairOf_ne_of_other_addr hw hhigh hlow (hother p hp) he]
    exact decodeRegister_of_lookupEntry_some (s := setPair q _ true (decodeAll between s)) (hu ▸ hw) (hu ▸ hlow) lo
  rw [runEntry_low_setPair] at ht
  dsimp only
  rw [ht]
  refine ⟨rfl, perGet_perSet_same _ _ _, perGet_perSet_same _ _ _, fun r hr => ⟨?_, ?_⟩⟩
  · rw [perGet_perSet_other _ q r _ hr, perGet_perSet_other _ q r _ hr]
  · rw [perGet_perSet_other _ q r _ hr, perGet_perSet_other _ q r _ hr]

/-! ### A whole transaction -/

theorem runSteps_add (m n : Nat) (s : State) : runSteps (m + n) s = andThen (runSteps m s) (runSteps n) := by
  induction m generalizing s with
  | zero => rw [Nat.zero_add]; rfl
  | succ m ih =>
    rw [Nat.add_right_comm, runSteps, runSteps]
    cases step s with
    | next t => exact ih t
    | fault f => rfl
    | refused r => rfl

/-- A valid request, run from its first byte, leaves a search for its response (R144). -/
theorem runSteps_validRequest {s : State} {addr : Half} {p2 p3 : Byte} {frame : List Byte} {rest : List InEvent}
    (hw : s.cfg.wf = true) (hph : s.ph = .reqSyncId) (hfb : s.fb = [])
    (hframe : frameOf s.cfg 4 (fixedBody addr p2 p3) (crc16 (s.cfg.expectedSlave :: 4 :: fixedBody addr p2 p3)) = frame)
    (hi : s.inp = frame.map .byte ++ rest) :
    ∃ t, runSteps frame.length s = .next t ∧ t.cfg = s.cfg ∧ t.ph = .rspSyncId ∧ t.fb = [] ∧ t.inp = rest ∧ t.reqFn = 4
      ∧ t.reqAddr = addr := by
  subst hframe
  rw [runSteps_fixedRequest (mk := .reqF04) hw rfl hph hfb hi]
  exact ⟨_, congrArg Host.Outcome.next (completeRequest_valid rfl), rfl, rfl, rfl, rfl, rfl, rfl⟩

/-- A valid function 4 response, run from its first byte, decodes its samples and leaves a search for a request (R168). -/
theorem runSteps_validResponse {s : State} {payload frame : List Byte} {rest : List InEvent} (hw : s.cfg.wf = true)
    (hph : s.ph = .rspSyncId) (hfb : s.fb = []) (hlen : payload.length ≤ 255)
    (hframe : frameOf s.cfg 4 (normalBody payload) (crc16 (s.cfg.expectedSlave :: 4 :: normalBody payload)) = frame)
    (hi : s.inp = frame.map .byte ++ rest) :
    ∃ u c, runSteps frame.length s = .next (startSearch .reqSyncId (decodeAll (samples s.reqAddr payload) u)) ∧ u.cfg = s.cfg
      ∧ u.inp = rest ∧ u.reqFn = s.reqFn ∧ u.reqAddr = s.reqAddr
      ∧ u.out = [.rspFrame 4 (BitVec.ofNat 8 payload.length) true c c (fnMatch 4 s.reqFn)] := by
  subst hframe
  rw [runSteps_normalResponse (mk := .rspF04) hw hph hfb rfl hlen hi]
  exact ⟨_, crc16 (s.cfg.expectedSlave :: 4 :: normalBody payload), congrArg Host.Outcome.next (completeNormal_valid rfl),
    rfl, rfl, rfl, rfl, rfl⟩

/-- Settles O22: the run over the request, the run over the response, and the join of the two words. -/
theorem transactionYieldsMeasurement : Obligations.TransactionYieldsMeasurement := by
  intro s q signed exp10 unit addr hi lo request response rest hw hph hfb hhigh hlow hreq hrsp hinp
  obtain ⟨-, hreq⟩ := Code.frame.inj hreq
  obtain ⟨-, hrsp⟩ := Code.frame.inj hrsp
  rw [List.map_append, List.append_assoc] at hinp
  obtain ⟨t, ht, hcfg, htph, htfb, htinp, htfn, htaddr⟩ := runSteps_validRequest hw hph hfb hreq hinp
  rw [← hcfg] at hw hhigh hlow hrsp
  obtain ⟨u, c, hu, hucfg, huinp, hufn, huaddr, huout⟩ := runSteps_validResponse hw htph htfb (by simp) hrsp htinp
  rw [← hucfg] at hw hhigh hlow
  obtain ⟨hout, hpend, hacc, -⟩ := pairJoinsAcrossOtherSamples u q signed exp10 unit addr hi lo [] hw hhigh hlow (by simp)
  obtain ⟨acc, pend, more, hdec, -⟩ := decoderTouchesOnlyAccumulators u [(addr, hi), (addr + 1, lo)]
  have hsamples : samples t.reqAddr [hiByte hi, loByte hi, hiByte lo, loByte lo] = [(addr, hi), (addr + 1, lo)] := by
    simp [samples, htaddr]
  have hmatch : fnMatch 4 t.reqFn = true := by rw [htfn]; decide
  rw [hsamples] at hu
  have hrun : runSteps (request ++ response).length s
      = .next (startSearch .reqSyncId (decodeAll [(addr, hi), (addr + 1, lo)] u)) := by
    rw [List.length_append, runSteps_add, ht, andThen_of_next, hu]
  refine ⟨startSearch .reqSyncId (decodeAll [(addr, hi), (addr + 1, lo)] u), c, ?_, ?_, rfl, ?_, ?_, ?_, hpend, hacc⟩
  · exact (core_run_eq _ _).trans hrun
  · rw [startSearch_out]
    exact hout.trans (by rw [decodeAll_nil, huout, hmatch]; rfl)
  · rw [startSearch_inp, hdec, huinp]
  · rw [startSearch_reqFn, hdec, hufn, htfn]
  · rw [startSearch_reqAddr, hdec, huaddr, htaddr]

end Sys2Proof.Machine

/-! # The events that are no byte, and the reset state (45_transaction_sequencer.md R215 to R218, 10_state.md section 7) -/

namespace Sys2Proof.Machine

/-- Settles O45, each field of the reset state as it is written. -/
theorem resetValues : Obligations.ResetValues := by
  refine ⟨rfl, rfl, rfl, rfl, rfl, rfl, rfl, rfl, ?_, ?_, rfl, rfl, rfl, rfl, rfl, rfl⟩ <;> (intro q; cases q <;> rfl)

/-- What an event that is no byte does, in any state. -/
inductive SystemStep (s : State) : InEvent → State → Prop
  | reset : SystemStep s .reset (resetBlock s)
  | halted {ev : InEvent} (hph : s.ph = .halted) (hev : ev ≠ .reset) : SystemStep s ev s
  | quietIgnored (hph : s.ph ≠ .resync) : SystemStep s .quiet s
  | shortIgnored (hph : s.ph = .resync) : SystemStep s .short s
  | returned (hph : s.ph = .resync) : SystemStep s .quiet (returnFromFailure s)
  | ioError (hph : s.ph ≠ .halted) : SystemStep s .ioErr (takeFailure (.ioError s.ph) s)
  | syncLost (hph : searching s.ph = true) : SystemStep s .short (loseSync s)
  | shortRead (hph : insideFrame s.ph = true) : SystemStep s .short (takeFailure (.shortRead s.ph s.len s.need) s)

/-- Every phase is a search, inside a frame, or one of the two of a failure. -/
theorem phase_cases (p : Phase) : searching p = true ∨ insideFrame p = true ∨ p = .resync ∨ p = .halted := by
  cases p <;> decide

theorem systemStep_short (s : State) : ∃ t, takeEvent .short s = .next t ∧ SystemStep s .short t := by
  rcases phase_cases s.ph with h | h | h | h
  · exact ⟨_, (takeEvent_short (searching_not_halted h)).trans (congrArg _ (onShort_searching h)), .syncLost h⟩
  · exact ⟨_, (takeEvent_short (insideFrame_not_halted h)).trans (congrArg _ (onShort_inside h)), .shortRead h⟩
  · exact ⟨_, takeEvent_short_resync h, .shortIgnored h⟩
  · exact ⟨_, takeEvent_halted h (by decide), .halted h (by decide)⟩

theorem systemStep_ioErr (s : State) : ∃ t, takeEvent .ioErr s = .next t ∧ SystemStep s .ioErr t := by
  by_cases h : s.ph = .halted
  · exact ⟨_, takeEvent_halted h (by decide), .halted h (by decide)⟩
  · exact ⟨_, takeEvent_ioErr h, .ioError h⟩

theorem systemStep_quiet (s : State) : ∃ t, takeEvent .quiet s = .next t ∧ SystemStep s .quiet t := by
  by_cases h : s.ph = .resync
  · exact ⟨_, takeEvent_quiet_resync h, .returned h⟩
  · exact ⟨_, takeEvent_quiet_ignored h, .quietIgnored h⟩

/-- An event that is no byte always has an effect, and it is one of these. -/
theorem systemStep_of_not_byte {ev : InEvent} (hev : ∀ b, ev ≠ .byte b) (s : State) :
    ∃ t, takeEvent ev s = .next t ∧ SystemStep s ev t := by
  cases ev with
  | byte b => exact absurd rfl (hev b)
  | short => exact systemStep_short s
  | ioErr => exact systemStep_ioErr s
  | quiet => exact systemStep_quiet s
  | reset => exact ⟨_, rfl, .reset⟩

end Sys2Proof.Machine


/-! # The frame invariant (10_state.md R27, R33; 00_scope.md R8)

With the invariant a byte always has an effect, and `ByteStep` lists what it can be: the invariant says which bytes stand in the
buffer, so the last byte of a frame makes them a frame of its position. That every step answers, that the invariant is kept, and the
rules about which step writes what all follow from this one list. -/

namespace Sys2Proof.Machine

/-- What a byte does in a state that meets the frame invariant. -/
inductive ByteStep (s : State) (b : Byte) : State → Prop
  | halted (hph : s.ph = .halted) : ByteStep s b s
  | rearmed (hph : s.ph = .resync) : ByteStep s b (emit .quietArm s)
  | found (d : Dir) (hph : s.ph = searchPhase d) (hb : b = s.cfg.expectedSlave) :
    ByteStep s b { s with fb := writeByte s.fb 0 b, len := 1, ph := candidatePhase d }
  | passed (d : Dir) (hph : s.ph = searchPhase d) : ByteStep s b { s with skipped := addSaturating s.skipped 1 }
  | rejected (d : Dir) (hph : s.ph = candidatePhase d) (hb : syncAccept s.cfg b = false) : ByteStep s b (skipCandidate d s)
  | fixedHeader (hph : s.ph = .reqSyncFn) (hb : b ∈ ([1, 2, 3, 4, 5, 6] : List Byte)) :
    ByteStep s b { accepted .req b s with need := 6, ph := .reqBody }
  | varHeader (hph : s.ph = .reqSyncFn) (hb : b ∈ ([15, 16] : List Byte)) :
    ByteStep s b { accepted .req b s with need := 5, ph := .reqPrefix }
  | unsupported (hph : s.ph = .reqSyncFn) (hb : b ∈ bareFns s.cfg) :
    ByteStep s b (takeFailure (.unsupportedFunction b) (accepted .req b s))
  | responseHeader (hph : s.ph = .rspSyncFn) (hb : syncAccept s.cfg b = true) :
    ByteStep s b { accepted .rsp b s with ph := .rspBc }
  | thirdByte (hph : s.ph = .rspBc) :
    ByteStep s b { s with
      fb := writeByte s.fb 2 b
      len := 3
      need := if exceptionFlag s.fn then 2 else b.toNat + 2
      ph := if exceptionFlag s.fn then .rspExc else .rspBody }
  | collected (hph : s.ph = .reqPrefix ∨ ∃ d, (s.ph, d) ∈ bodyPhases) (hneed : 1 < s.need) : ByteStep s b (stored b s)
  | byteCount (hph : s.ph = .reqPrefix) (hneed : s.need = 1) :
    ByteStep s b { stored b s with need := b.toNat + 2, ph := .reqBody }
  | request (hph : s.ph = .reqBody) (hneed : s.need = 1) {fn : Byte} (hfn : fn ∈ requestFns) (addr : Half) (bc : Option Byte)
    (body : List Byte) (crc : Half) : ByteStep s b (completeRequest fn addr bc body crc (stored b s))
  | normal (hph : s.ph = .rspBody) (hneed : s.need = 1) (fn : Byte) (payload : List Byte) (crc : Half) :
    ByteStep s b (completeNormal fn payload crc (stored b s))
  | exception (hph : s.ph = .rspExc) (hneed : s.need = 1) (fn err : Byte) (crc : Half) :
    ByteStep s b (completeException fn err crc (stored b s))

/-! ### The parts of the invariant -/

theorem FrameInv.cfg_wf {s : State} (hinv : FrameInv s) : s.cfg.wf = true := by
  obtain ⟨hw, -⟩ := hinv
  exact hw

theorem FrameInv.held {s : State} (hinv : FrameInv s) : BufferHeld s := by
  obtain ⟨-, hheld, -⟩ := hinv
  exact hheld

theorem FrameInv.shape {s : State} (hinv : FrameInv s) : PhaseShape s := by
  obtain ⟨-, -, hshape, -⟩ := hinv
  exact hshape

theorem FrameInv.header {s : State} (hinv : FrameInv s) : HeaderKept s := by
  obtain ⟨-, -, -, hheader, -⟩ := hinv
  exact hheader

theorem FrameInv.requestKnown {s : State} (hinv : FrameInv s) : RequestKnown s := by
  obtain ⟨-, -, -, -, hknown⟩ := hinv
  exact hknown

/-! ### The bytes in the buffer -/

/-- After an accepted header the buffer holds the header and the bytes after it. -/
theorem exists_body_of_frameInv {s : State} (hinv : FrameInv s) (hlen : 2 ≤ s.len) :
    ∃ body, readFrame s.fb 0 s.len = .next (s.cfg.expectedSlave :: s.fn :: body) ∧ body.length + 2 = s.len
      ∧ (∀ i, i < body.length → readByte s.fb (i + 2) = body[i]?) ∧ syncAccept s.cfg s.fn = true := by
  obtain ⟨hslave, hfn⟩ := hinv.header
  obtain ⟨bytes, hread, hcount, hbytes⟩ := readFrame_held hinv.held
  obtain ⟨hone, hacc⟩ := hfn hlen
  have hzero := hslave (by omega)
  rw [hbytes 0 (by omega)] at hzero
  rw [hbytes 1 (by omega)] at hone
  match bytes, hzero, hone with
  | x :: y :: body, hzero, hone =>
    obtain rfl : x = s.cfg.expectedSlave := by simpa using hzero
    obtain rfl : y = s.fn := by simpa using hone
    simp only [List.length_cons] at hcount
    exact ⟨body, hread, by omega, fun i hi => by rw [hbytes (i + 2) (by omega)]; rfl, hacc⟩

/-- An accepted byte with the exception flag clear is a known code, with it set a flagged one. -/
theorem mem_knownFn_of_accepted {cfg : Config} (hcfg : cfg.wf = true) {f : Byte} (hacc : syncAccept cfg f = true)
    (hflag : exceptionFlag f = false) : f ∈ knownFn cfg := by
  rcases (syncAccept_iff hcfg f).mp hacc with h | h
  · exact h
  · obtain ⟨c, -, rfl⟩ := List.mem_map.mp h
    rw [exceptionFlag_flagged] at hflag
    cases hflag

theorem mem_flagged_of_accepted {cfg : Config} (hcfg : cfg.wf = true) {f : Byte} (hacc : syncAccept cfg f = true)
    (hflag : exceptionFlag f = true) : f ∈ (knownFn cfg).map (0x80 ||| ·) := by
  rcases (syncAccept_iff hcfg f).mp hacc with h | h
  · rw [exceptionFlag_of_le (knownFn_le hcfg h)] at hflag
    cases hflag
  · exact h

/-- R33: in the phases that collect bytes the header is complete, the frame fits and some byte is missing. -/
theorem collecting_bounds {s : State} (hinv : FrameInv s) (hph : s.ph = .reqPrefix ∨ ∃ d, (s.ph, d) ∈ bodyPhases) :
    2 ≤ s.len ∧ s.len < 264 ∧ 1 ≤ s.need := by
  have hshape := hinv.shape
  simp only [bodyPhases, List.mem_cons, Prod.mk.injEq, List.not_mem_nil, or_false] at hph
  rcases hph with hph | ⟨d, ⟨hph, -⟩ | ⟨hph, -⟩ | ⟨hph, -⟩⟩
  · simp only [PhaseShape, hph] at hshape
    omega
  · simp only [PhaseShape, hph] at hshape
    rcases hshape with ⟨-, hsum, hpos, hle, -⟩ | ⟨-, bc, -, hsum, hpos, hle⟩
    · omega
    · have := bc.isLt
      omega
  · simp only [PhaseShape, hph] at hshape
    omega
  · simp only [PhaseShape, hph] at hshape
    obtain ⟨-, bc, -, hsum, hpos, hle⟩ := hshape
    have := bc.isLt
    omega

/-- Every phase follows one of the byte rules, or takes no byte into a frame. -/
theorem phase_rules (p : Phase) : (∃ d, p = searchPhase d) ∨ p = .reqSyncFn ∨ p = .rspSyncFn ∨ p = .reqPrefix ∨ p = .rspBc
    ∨ (∃ d, (p, d) ∈ bodyPhases) ∨ p = .resync ∨ p = .halted := by
  cases p
  case reqSyncId => exact .inl ⟨.req, rfl⟩
  case rspSyncId => exact .inl ⟨.rsp, rfl⟩
  case reqBody => exact .inr (.inr (.inr (.inr (.inr (.inl ⟨.req, by decide⟩)))))
  case rspExc | rspBody => exact .inr (.inr (.inr (.inr (.inr (.inl ⟨.rsp, by decide⟩)))))
  all_goals simp

/-! ### The last byte of a frame -/

section
variable {s : State} {b : Byte} {rest : List InEvent} (hinv : FrameInv s) (hi : s.inp = .byte b :: rest)
include hinv hi

/-- A request ends with the completion of its function byte. -/
theorem step_reqBody_last (hph : s.ph = .reqBody) (hneed : s.need = 1) :
    ∃ fn ∈ requestFns, ∃ addr bc body crc,
      step s = .next (completeRequest fn addr bc body crc (stored b { s with inp := rest, out := [] })) := by
  have hw := hinv.cfg_wf
  have hbody : (s.ph, Dir.req) ∈ bodyPhases := by simp [hph, bodyPhases]
  have hshape := hinv.shape
  simp only [PhaseShape, hph, hneed] at hshape
  rcases hshape with ⟨hfn, hlen, -⟩ | ⟨hfn, bc, hbc, hlen, -⟩
  · obtain ⟨body, hread, hcount, -⟩ := exists_body_of_frameInv hinv (by omega)
    obtain ⟨mk, hmk⟩ := fixedRequest_of_mem hfn
    obtain ⟨addr, p2, p3, crc, hwhole⟩ := exists_fixedBody (body := body ++ [b]) (by simp; omega)
    have hdec := decode_requestFrame hw (.fixed hmk addr p2 p3 crc)
    rw [frameOf_eq, ← hwhole] at hdec
    exact ⟨s.fn, mem_layouts_of_fixed hfn, addr, none, fixedBody addr p2 p3, crc,
      (step_body_last hw hi hbody (by omega) hneed hread hdec).trans (exec_fixedRequest hmk addr p2 p3 crc _)⟩
  · have hbound := bc.isLt
    obtain ⟨body, hread, hcount, hbytes, -⟩ := exists_body_of_frameInv hinv (by omega)
    have hfn : s.fn ∈ ([15, 16] : List Byte) := by simpa using hfn
    obtain ⟨mk, hmk⟩ := varRequest_of_mem hfn
    have hbyte : (body ++ [b])[4]? = some bc := by
      rw [List.getElem?_append_left (by omega), ← hbytes 4 (by omega), hbc]
    obtain ⟨addr, q, data, crc, hdata, hwhole⟩ := exists_varBody hbyte (by simp; omega)
    have hdec := decode_requestFrame hw (.var hmk addr q data crc hdata)
    rw [frameOf_eq, ← hwhole] at hdec
    exact ⟨s.fn, mem_layouts_of_var hfn, addr, some (BitVec.ofNat 8 data.length), varBody addr q data, crc,
      (step_body_last hw hi hbody (by omega) hneed hread hdec).trans (exec_varRequest hmk addr q data crc _)⟩

/-- A normal response ends with its completion. -/
theorem step_rspBody_last (hph : s.ph = .rspBody) (hneed : s.need = 1) :
    ∃ fn payload crc, step s = .next (completeNormal fn payload crc (stored b { s with inp := rest, out := [] })) := by
  have hw := hinv.cfg_wf
  have hbody : (s.ph, Dir.rsp) ∈ bodyPhases := by simp [hph, bodyPhases]
  have hshape := hinv.shape
  simp only [PhaseShape, hph, hneed] at hshape
  obtain ⟨hflag, bc, hbc, hlen, -⟩ := hshape
  have hbound := bc.isLt
  obtain ⟨body, hread, hcount, hbytes, hacc⟩ := exists_body_of_frameInv hinv (by omega)
  obtain ⟨mk, hmk⟩ := normalResponse_of_mem (mem_knownFn_of_accepted hw hacc hflag)
  have hbyte : (body ++ [b])[0]? = some bc := by
    rw [List.getElem?_append_left (by omega), ← hbytes 0 (by omega), hbc]
  obtain ⟨payload, crc, hpayload, hwhole⟩ := exists_normalBody hbyte (by simp; omega)
  have hdec := decode_responseFrame hw (.normal hmk payload crc hpayload)
  rw [frameOf_eq, ← hwhole] at hdec
  exact ⟨s.fn, payload, crc,
    (step_body_last hw hi hbody (by omega) hneed hread hdec).trans
      (exec_normalResponse (s := stored b { s with inp := rest, out := [] }) hmk payload crc)⟩

/-- An exception response ends with its completion. -/
theorem step_rspExc_last (hph : s.ph = .rspExc) (hneed : s.need = 1) :
    ∃ fn err crc, step s = .next (completeException fn err crc (stored b { s with inp := rest, out := [] })) := by
  have hw := hinv.cfg_wf
  have hbody : (s.ph, Dir.rsp) ∈ bodyPhases := by simp [hph, bodyPhases]
  have hshape := hinv.shape
  simp only [PhaseShape, hph, hneed] at hshape
  obtain ⟨hlen, -, -, hflag⟩ := hshape
  obtain ⟨body, hread, hcount, -, hacc⟩ := exists_body_of_frameInv hinv (by omega)
  obtain ⟨mk, hmk⟩ := exceptionResponse_of_mem (mem_flagged_of_accepted hw hacc hflag)
  obtain ⟨err, crc, hwhole⟩ := exists_exceptionBody (body := body ++ [b]) (by simp; omega)
  have hdec := decode_responseFrame hw (.exception hmk err crc)
  rw [frameOf_eq, ← hwhole] at hdec
  exact ⟨s.fn, err, crc,
    (step_body_last hw hi hbody (by omega) hneed hread hdec).trans
      (exec_exceptionResponse (s := stored b { s with inp := rest, out := [] }) hmk err crc)⟩

/-! ### Any byte -/

theorem byteStep_search {d : Dir} (hph : s.ph = searchPhase d) :
    ∃ t, step s = .next t ∧ ByteStep { s with inp := rest, out := [] } b t := by
  have hrunning : s.ph ≠ .halted := by cases d <;> simp [hph, searchPhase]
  have hfetch := fetchByte_search (s := { s with inp := rest, out := [] }) hph b
  by_cases hb : b = s.cfg.expectedSlave
  · exact ⟨_, step_byte_of_more hinv.cfg_wf hrunning hi (hfetch.trans (fetchSlave_found hb)), .found d hph hb⟩
  · exact ⟨_, step_byte_of_more hinv.cfg_wf hrunning hi (hfetch.trans (fetchSlave_passed hb)), .passed d hph⟩

theorem byteStep_reqSyncFn (hph : s.ph = .reqSyncFn) :
    ∃ t, step s = .next t ∧ ByteStep { s with inp := rest, out := [] } b t := by
  have hw := hinv.cfg_wf
  have hshape := hinv.shape
  simp only [PhaseShape, hph] at hshape
  obtain ⟨hlen, -, hslave⟩ := hshape
  cases hacc : syncAccept s.cfg b with
  | false => exact ⟨_, step_skipCandidate (d := .req) hw hi hph hlen hslave hacc, .rejected .req hph hacc⟩
  | true =>
    rcases requestLayout_of_accepted hw hacc with hb | hb | hb
    · exact ⟨_, step_fixedHeader hw hi hph hb, .fixedHeader hph hb⟩
    · exact ⟨_, step_varHeader hw hi hph hb, .varHeader hph hb⟩
    · exact ⟨_, step_unsupported hw hi hph hlen hslave hb, .unsupported hph hb⟩

theorem byteStep_rspSyncFn (hph : s.ph = .rspSyncFn) :
    ∃ t, step s = .next t ∧ ByteStep { s with inp := rest, out := [] } b t := by
  have hw := hinv.cfg_wf
  have hshape := hinv.shape
  simp only [PhaseShape, hph] at hshape
  obtain ⟨hlen, -, hslave⟩ := hshape
  cases hacc : syncAccept s.cfg b with
  | false => exact ⟨_, step_skipCandidate (d := .rsp) hw hi hph hlen hslave hacc, .rejected .rsp hph hacc⟩
  | true => exact ⟨_, step_responseHeader hw hi hph hacc, .responseHeader hph hacc⟩

theorem byteStep_rspBc (hph : s.ph = .rspBc) : ∃ t, step s = .next t ∧ ByteStep { s with inp := rest, out := [] } b t :=
  ⟨_, step_byte_of_more hinv.cfg_wf (by simp [hph]) hi
    ((fetchByte_rspBc (s := { s with inp := rest, out := [] }) hph b).trans (fetchByteCount_eq b _)), .thirdByte hph⟩

theorem byteStep_reqPrefix (hph : s.ph = .reqPrefix) :
    ∃ t, step s = .next t ∧ ByteStep { s with inp := rest, out := [] } b t := by
  have hshape := hinv.shape
  simp only [PhaseShape, hph] at hshape
  obtain ⟨hsum, hpos, -⟩ := hshape
  by_cases hneed : s.need = 1
  · exact ⟨_, step_reqPrefix_last hinv.cfg_wf hi hph (by omega) hneed, .byteCount hph hneed⟩
  · exact ⟨_, step_reqPrefix_more hinv.cfg_wf hi hph (by omega) (by omega), .collected (.inl hph) (by show 1 < s.need; omega)⟩

theorem byteStep_body {d : Dir} (hph : (s.ph, d) ∈ bodyPhases) :
    ∃ t, step s = .next t ∧ ByteStep { s with inp := rest, out := [] } b t := by
  obtain ⟨-, hlen, hpos⟩ := collecting_bounds hinv (.inr ⟨d, hph⟩)
  by_cases hneed : s.need = 1
  · have hcases := hph
    simp only [bodyPhases, List.mem_cons, Prod.mk.injEq, List.not_mem_nil, or_false] at hcases
    rcases hcases with ⟨hph, -⟩ | ⟨hph, -⟩ | ⟨hph, -⟩
    · obtain ⟨fn, hfn, addr, bc, body, crc, hstep⟩ := step_reqBody_last hinv hi hph hneed
      exact ⟨_, hstep, .request (s := { s with inp := rest, out := [] }) hph hneed hfn addr bc body crc⟩
    · obtain ⟨fn, err, crc, hstep⟩ := step_rspExc_last hinv hi hph hneed
      exact ⟨_, hstep, .exception (s := { s with inp := rest, out := [] }) hph hneed fn err crc⟩
    · obtain ⟨fn, payload, crc, hstep⟩ := step_rspBody_last hinv hi hph hneed
      exact ⟨_, hstep, .normal (s := { s with inp := rest, out := [] }) hph hneed fn payload crc⟩
  · exact ⟨_, step_body_more hinv.cfg_wf hi hph hlen (by omega), .collected (.inr ⟨d, hph⟩) (by show 1 < s.need; omega)⟩

/-- With the frame invariant a byte always has an effect, and it is one of the list. -/
theorem byteStep_of_frameInv : ∃ t, step s = .next t ∧ ByteStep { s with inp := rest, out := [] } b t := by
  rcases phase_rules s.ph with ⟨d, hph⟩ | hph | hph | hph | hph | ⟨d, hph⟩ | hph | hph
  · exact byteStep_search hinv hi hph
  · exact byteStep_reqSyncFn hinv hi hph
  · exact byteStep_rspSyncFn hinv hi hph
  · exact byteStep_reqPrefix hinv hi hph
  · exact byteStep_rspBc hinv hi hph
  · exact byteStep_body hinv hi hph
  · exact ⟨_, (stepBlock_event hinv.cfg_wf hi).trans (takeEvent_byte_resync (s := { s with inp := rest, out := [] }) hph b),
      .rearmed hph⟩
  · exact ⟨_, step_halted hinv.cfg_wf hph hi (by simp), .halted hph⟩

end

/-- What a step can be in a state that meets the frame invariant. -/
inductive FrameStep (s : State) : State → Prop
  | waits (hi : s.inp = []) : FrameStep s { s with out := [] }
  | byte {b : Byte} {rest : List InEvent} {t : State} (hi : s.inp = .byte b :: rest)
    (h : ByteStep { s with inp := rest, out := [] } b t) : FrameStep s t
  | system {ev : InEvent} {rest : List InEvent} {t : State} (hi : s.inp = ev :: rest)
    (h : SystemStep { s with inp := rest, out := [] } ev t) : FrameStep s t

theorem frameStep_of_frameInv {s : State} (hinv : FrameInv s) : ∃ t, step s = .next t ∧ FrameStep s t := by
  cases hi : s.inp with
  | nil => exact ⟨_, step_waits hinv.cfg_wf hi, .waits hi⟩
  | cons ev rest =>
    by_cases hbyte : ∃ b, ev = .byte b
    · obtain ⟨b, rfl⟩ := hbyte
      obtain ⟨t, hstep, hcases⟩ := byteStep_of_frameInv hinv hi
      exact ⟨t, hstep, .byte hi hcases⟩
    · obtain ⟨t, htake, hcases⟩ := systemStep_of_not_byte (fun b hb => hbyte ⟨b, hb⟩) { s with inp := rest, out := [] }
      exact ⟨t, (stepBlock_event hinv.cfg_wf hi).trans htake, .system hi hcases⟩

/-- Settles O48: every case of the list answers a state. -/
theorem stepNeverStops : Obligations.StepNeverStops := by
  intro s hinv
  obtain ⟨t, hstep, -⟩ := frameStep_of_frameInv hinv
  exact ⟨t, hstep⟩

theorem frameStep_of_step {s t : State} (hinv : FrameInv s) (hstep : step s = .next t) : FrameStep s t := by
  obtain ⟨u, hu, hcases⟩ := frameStep_of_frameInv hinv
  rw [hstep] at hu
  cases hu
  exact hcases

end Sys2Proof.Machine

namespace Sys2Proof.Machine

/-! ### The invariant after each effect -/

/-- Between two frames the buffer is empty and nothing is needed, so only the known request is asked for (R33). -/
theorem frameInv_of_idle {s : State} (hw : s.cfg.wf = true) (hfb : s.fb = []) (hlen : s.len = 0) (hneed : s.need = 0)
    (hph : s.ph = .reqSyncId ∨ s.ph = .rspSyncId ∧ s.reqFn ∈ requestFns ∨ s.ph = .resync ∨ s.ph = .halted) : FrameInv s := by
  have hheld : BufferHeld s := bufferHeld_cellsFrom (bytes := []) hfb hlen (by decide)
  have hheader : HeaderKept s := ⟨fun h => by omega, fun h => by omega⟩
  refine ⟨hw, hheld, ?_, hheader, ?_⟩
  · rcases hph with h | ⟨h, -⟩ | h | h <;> simp [PhaseShape, h, hlen, hneed]
  · rcases hph with h | ⟨h, hfn⟩ | h | h
    case inr.inl => exact fun _ => hfn
    all_goals simp [RequestKnown, h, inResponse]

theorem frameInv_takeFailure (info : FailInfo) {s : State} (hw : s.cfg.wf = true) : FrameInv (takeFailure info s) :=
  frameInv_of_idle (by simpa using hw) (by simp) (by simp) (by simp) (.inr (.inr (takeFailure_ph info s)))

theorem frameInv_startSearch_req {s : State} (hw : s.cfg.wf = true) : FrameInv (startSearch .reqSyncId s) :=
  frameInv_of_idle hw rfl rfl rfl (.inl rfl)

theorem decodeAll_cfg (xs : List (Half × Half)) (s : State) : (decodeAll xs s).cfg = s.cfg := by
  obtain ⟨_, _, _, heq, -⟩ := decoderTouchesOnlyAccumulators s xs
  rw [heq]

theorem frameInv_completeRequest {fn : Byte} (hfn : fn ∈ requestFns) (addr : Half) (bc : Option Byte) (body : List Byte) (crc : Half)
    {s : State} (hw : s.cfg.wf = true) : FrameInv (completeRequest fn addr bc body crc s) := by
  by_cases h : crc16 (s.cfg.expectedSlave :: fn :: body) = crc
  · rw [completeRequest_valid h]
    exact frameInv_of_idle hw rfl rfl rfl (.inr (.inl ⟨rfl, hfn⟩))
  · rw [completeRequest_invalid h]
    exact frameInv_takeFailure _ (by exact hw)

theorem frameInv_completeNormal (fn : Byte) (payload : List Byte) (crc : Half) {s : State} (hw : s.cfg.wf = true) :
    FrameInv (completeNormal fn payload crc s) := by
  by_cases h : crc16 (s.cfg.expectedSlave :: fn :: normalBody payload) = crc
  · rw [completeNormal_valid h]
    exact frameInv_startSearch_req (by rw [decodeAll_cfg]; exact hw)
  · rw [completeNormal_invalid h]
    exact frameInv_takeFailure _ (by exact hw)

theorem frameInv_completeException (fn err : Byte) (crc : Half) {s : State} (hw : s.cfg.wf = true) :
    FrameInv (completeException fn err crc s) := by
  by_cases h : crc16 [s.cfg.expectedSlave, fn, err] = crc
  · rw [completeException_valid h]
    exact frameInv_startSearch_req hw
  · rw [completeException_invalid h]
    exact frameInv_takeFailure _ (by exact hw)

/-- A byte stored at the end of the buffer leaves the buffer held. -/
theorem bufferHeld_append {s t : State} {i : Nat} {b : Byte} (hheld : BufferHeld s) (hi : i < 264) (hlen : s.len = i)
    (hfb : t.fb = writeByte s.fb i b) (ht : t.len = i + 1) : BufferHeld t := by
  subst hlen
  have hput := bufferHeld_putByte hheld (putByte_of_lt (b := b) hi)
  exact ⟨hfb ▸ hput.1, fun a => by rw [hfb, ht]; exact hput.2 a⟩

/-- A byte after the header leaves the header as it is. -/
theorem headerKept_append {s t : State} {i : Nat} {b : Byte} (hheader : HeaderKept s) (hi : 2 ≤ i) (hlen : s.len = i)
    (hfb : t.fb = writeByte s.fb i b) (hfn : t.fn = s.fn) (hcfg : t.cfg = s.cfg) : HeaderKept t := by
  subst hlen
  obtain ⟨hslave, hf⟩ := hheader
  obtain ⟨hread, hacc⟩ := hf hi
  refine ⟨fun _ => ?_, fun _ => ⟨?_, by rw [hcfg, hfn]; exact hacc⟩⟩
  · rw [hfb, readByte_writeByte_other _ _ _ _ (by omega), hslave (by omega), hcfg]
  · rw [hfb, readByte_writeByte_other _ _ _ _ (by omega), hread, hfn]

/-- A function byte accepted after the slave byte makes the header. -/
theorem headerKept_accepted {s t : State} {b : Byte} (hslave : readByte s.fb 0 = some s.cfg.expectedSlave)
    (hacc : syncAccept s.cfg b = true) (hfb : t.fb = writeByte s.fb 1 b) (hfn : t.fn = b) (hcfg : t.cfg = s.cfg) :
    HeaderKept t := by
  refine ⟨fun _ => ?_, fun _ => ⟨?_, by rw [hcfg, hfn]; exact hacc⟩⟩
  · rw [hfb, readByte_writeByte_other _ _ _ _ (by decide), hslave, hcfg]
  · rw [hfb, hfn, readByte_writeByte_same]

theorem not_inResponse {s : State} (h : inResponse s.ph = false) : RequestKnown s := fun hr => by
  rw [h] at hr
  cases hr

section
variable {s : State} {b : Byte} (hinv : FrameInv s)
include hinv

theorem frameInv_found {d : Dir} (hph : s.ph = searchPhase d) (hb : b = s.cfg.expectedSlave) :
    FrameInv { s with fb := writeByte s.fb 0 b, len := 1, ph := candidatePhase d } := by
  have hshape := hinv.shape
  have hknown := hinv.requestKnown
  have hsearch : s.len = 0 ∧ s.need = 0 := by cases d <;> simpa [PhaseShape, hph, searchPhase] using hshape
  obtain ⟨hlen, hneed⟩ := hsearch
  have hslave : readByte (writeByte s.fb 0 b) 0 = some s.cfg.expectedSlave := by rw [readByte_writeByte_same, hb]
  refine ⟨hinv.cfg_wf, bufferHeld_append hinv.held (by decide) hlen rfl rfl, ?_, ⟨fun _ => hslave, fun h => ?_⟩, ?_⟩
  · cases d <;> exact ⟨rfl, hneed, hslave⟩
  · exact absurd h (by decide : ¬2 ≤ 1)
  · cases d with
    | req => exact not_inResponse rfl
    | rsp => exact fun _ => hknown (by rw [hph]; rfl)

/-- The candidate phases hold the slave byte alone (R33). -/
theorem candidate_shape {d : Dir} (hph : s.ph = candidatePhase d) :
    s.len = 1 ∧ s.need = 0 ∧ readByte s.fb 0 = some s.cfg.expectedSlave := by
  have hshape := hinv.shape
  cases d <;> simpa [PhaseShape, hph, candidatePhase] using hshape

theorem frameInv_rejected {d : Dir} (hph : s.ph = candidatePhase d) : FrameInv (skipCandidate d s) := by
  obtain ⟨-, hneed, -⟩ := candidate_shape hinv hph
  have hknown := hinv.requestKnown
  refine frameInv_of_idle hinv.cfg_wf rfl rfl hneed ?_
  cases d with
  | req => exact .inl rfl
  | rsp => exact .inr (.inl ⟨rfl, hknown (by rw [hph]; rfl)⟩)

theorem frameInv_fixedHeader (hph : s.ph = .reqSyncFn) (hb : b ∈ ([1, 2, 3, 4, 5, 6] : List Byte)) :
    FrameInv { accepted .req b s with need := 6, ph := .reqBody } := by
  obtain ⟨hlen, -, hslave⟩ := candidate_shape hinv (d := .req) hph
  have hacc := syncAccept_of_requestLayout hinv.cfg_wf (mem_layouts_of_fixed hb)
  refine ⟨hinv.cfg_wf, bufferHeld_append hinv.held (by decide) hlen rfl rfl, ?_, headerKept_accepted hslave hacc rfl rfl rfl,
    not_inResponse rfl⟩
  exact .inl ⟨hb, rfl, (by decide : 1 ≤ 6), le_refl 6, readByte_writeByte_same ..⟩

theorem frameInv_varHeader (hph : s.ph = .reqSyncFn) (hb : b ∈ ([15, 16] : List Byte)) :
    FrameInv { accepted .req b s with need := 5, ph := .reqPrefix } := by
  obtain ⟨hlen, -, hslave⟩ := candidate_shape hinv (d := .req) hph
  have hacc := syncAccept_of_requestLayout hinv.cfg_wf (mem_layouts_of_var hb)
  have hfn : b = 15 ∨ b = 16 := by simpa using hb
  refine ⟨hinv.cfg_wf, bufferHeld_append hinv.held (by decide) hlen rfl rfl, ?_, headerKept_accepted hslave hacc rfl rfl rfl,
    not_inResponse rfl⟩
  exact ⟨rfl, (by decide : 1 ≤ 5), le_refl 5, hfn, readByte_writeByte_same ..⟩

theorem frameInv_responseHeader (hph : s.ph = .rspSyncFn) (hacc : syncAccept s.cfg b = true) :
    FrameInv { accepted .rsp b s with ph := .rspBc } := by
  obtain ⟨hlen, hneed, hslave⟩ := candidate_shape hinv (d := .rsp) hph
  have hknown := hinv.requestKnown
  refine ⟨hinv.cfg_wf, bufferHeld_append hinv.held (by decide) hlen rfl rfl, ?_, headerKept_accepted hslave hacc rfl rfl rfl,
    fun _ => hknown (by rw [hph]; rfl)⟩
  exact ⟨rfl, hneed, readByte_writeByte_same ..⟩

theorem frameInv_thirdByte (hph : s.ph = .rspBc) :
    FrameInv { s with
      fb := writeByte s.fb 2 b
      len := 3
      need := if exceptionFlag s.fn then 2 else b.toNat + 2
      ph := if exceptionFlag s.fn then .rspExc else .rspBody } := by
  have hshape := hinv.shape
  have hknown := hinv.requestKnown
  simp only [PhaseShape, hph] at hshape
  obtain ⟨hlen, -⟩ := hshape
  have hheld := bufferHeld_append (t := { s with fb := writeByte s.fb 2 b, len := 3 }) hinv.held (by decide) hlen rfl rfl
  have hheader := headerKept_append (t := { s with fb := writeByte s.fb 2 b, len := 3 }) hinv.header (le_refl 2) hlen rfl rfl rfl
  refine ⟨hinv.cfg_wf, hheld, ?_, hheader, fun _ => hknown (by rw [hph]; rfl)⟩
  cases hflag : exceptionFlag s.fn with
  | true => exact ⟨rfl, (by decide : 1 ≤ 2), le_refl 2, hflag⟩
  | false =>
    have hsum : 3 + (b.toNat + 2) = 5 + b.toNat := by omega
    have hpos : 1 ≤ b.toNat + 2 := by omega
    exact ⟨hflag, b, readByte_writeByte_same .., hsum, hpos, le_refl _⟩

/-- A stored byte moves `len` and `need` by one each and touches no byte that the phase names (R33). -/
theorem phaseShape_stored (hph : s.ph = .reqPrefix ∨ ∃ d, (s.ph, d) ∈ bodyPhases) (hneed : 1 < s.need) :
    PhaseShape (stored b s) := by
  have hread : ∀ a, a ≠ s.len → readByte (writeByte s.fb s.len b) a = readByte s.fb a :=
    fun a ha => readByte_writeByte_other _ _ _ _ ha
  have hshape := hinv.shape
  obtain ⟨htwo, -, hpos⟩ := collecting_bounds hinv hph
  simp only [bodyPhases, List.mem_cons, Prod.mk.injEq, List.not_mem_nil, or_false] at hph
  rcases hph with hph | ⟨d, ⟨hph, -⟩ | ⟨hph, -⟩ | ⟨hph, -⟩⟩
  · simp only [PhaseShape, stored, hph] at hshape ⊢
    obtain ⟨hsum, -, hle, hfn, hone⟩ := hshape
    exact ⟨by omega, by omega, by omega, hfn, (hread 1 (by omega)).trans hone⟩
  · simp only [PhaseShape, stored, hph] at hshape ⊢
    rcases hshape with ⟨hfn, hsum, -, hle, hone⟩ | ⟨hfn, bc, hbc, hsum, -, hle⟩
    · exact .inl ⟨hfn, by omega, by omega, by omega, (hread 1 (by omega)).trans hone⟩
    · exact .inr ⟨hfn, bc, (hread 6 (by omega)).trans hbc, by omega, by omega, by omega⟩
  · simp only [PhaseShape, stored, hph] at hshape ⊢
    obtain ⟨hsum, -, hle, hflag⟩ := hshape
    exact ⟨by omega, by omega, by omega, hflag⟩
  · simp only [PhaseShape, stored, hph] at hshape ⊢
    obtain ⟨hflag, bc, hbc, hsum, -, hle⟩ := hshape
    exact ⟨hflag, bc, (hread 2 (by omega)).trans hbc, by omega, by omega, by omega⟩

theorem frameInv_stored (hph : s.ph = .reqPrefix ∨ ∃ d, (s.ph, d) ∈ bodyPhases) (hneed : 1 < s.need) :
    FrameInv (stored b s) := by
  obtain ⟨htwo, hfits, -⟩ := collecting_bounds hinv hph
  exact ⟨hinv.cfg_wf, bufferHeld_append hinv.held hfits rfl rfl rfl, phaseShape_stored hinv hph hneed,
    headerKept_append hinv.header htwo rfl rfl rfl rfl, hinv.requestKnown⟩

theorem frameInv_byteCount (hph : s.ph = .reqPrefix) (hneed : s.need = 1) :
    FrameInv { stored b s with need := b.toNat + 2, ph := .reqBody } := by
  have hshape := hinv.shape
  simp only [PhaseShape, hph, hneed] at hshape
  obtain ⟨hsum, -, -, hfn, -⟩ := hshape
  have hlen : s.len = 6 := by omega
  have hread : readByte (writeByte s.fb s.len b) 6 = some b := by rw [hlen]; exact readByte_writeByte_same ..
  have hcount : s.len + 1 + (b.toNat + 2) = 9 + b.toNat := by omega
  have hpos : 1 ≤ b.toNat + 2 := by omega
  exact ⟨hinv.cfg_wf, bufferHeld_append hinv.held (by omega) rfl rfl rfl,
    .inr ⟨hfn, b, hread, hcount, hpos, le_refl _⟩, headerKept_append hinv.header (by omega) rfl rfl rfl rfl, not_inResponse rfl⟩

/-- A byte keeps the frame invariant. -/
theorem frameInv_of_byteStep {t : State} (h : ByteStep s b t) : FrameInv t := by
  cases h with
  | halted => exact hinv
  | rearmed => exact hinv
  | found d hph hb => exact frameInv_found hinv hph hb
  | passed => exact hinv
  | rejected d hph => exact frameInv_rejected hinv hph
  | fixedHeader hph hb => exact frameInv_fixedHeader hinv hph hb
  | varHeader hph hb => exact frameInv_varHeader hinv hph hb
  | unsupported => exact frameInv_takeFailure _ (by exact hinv.cfg_wf)
  | responseHeader hph hb => exact frameInv_responseHeader hinv hph hb
  | thirdByte hph => exact frameInv_thirdByte hinv hph
  | collected hph hneed => exact frameInv_stored hinv hph hneed
  | byteCount hph hneed => exact frameInv_byteCount hinv hph hneed
  | request _ _ hfn addr bc body crc => exact frameInv_completeRequest hfn addr bc body crc (by exact hinv.cfg_wf)
  | normal _ _ fn payload crc => exact frameInv_completeNormal fn payload crc (by exact hinv.cfg_wf)
  | exception _ _ fn err crc => exact frameInv_completeException fn err crc (by exact hinv.cfg_wf)

/-- So does every other event: what changes the frame at all drops it. -/
theorem frameInv_of_systemStep {ev : InEvent} {t : State} (h : SystemStep s ev t) : FrameInv t := by
  cases h with
  | reset => exact frameInv_of_idle hinv.cfg_wf rfl rfl rfl (.inl rfl)
  | halted => exact hinv
  | quietIgnored => exact hinv
  | shortIgnored => exact hinv
  | returned => exact frameInv_startSearch_req hinv.cfg_wf
  | ioError => exact frameInv_takeFailure _ hinv.cfg_wf
  | syncLost => exact frameInv_takeFailure _ (by exact hinv.cfg_wf)
  | shortRead => exact frameInv_takeFailure _ hinv.cfg_wf

end

/-- Settles O47: every effect of the list keeps the invariant. -/
theorem frameInvariantKept : Obligations.FrameInvariantKept := by
  intro s t hinv hstep
  cases frameStep_of_step hinv hstep with
  | waits => exact hinv
  | byte _ h => exact frameInv_of_byteStep (s := { s with inp := _, out := [] }) hinv h
  | system _ h => exact frameInv_of_systemStep (s := { s with inp := _, out := [] }) hinv h

/-- Settles O46. -/
theorem invariantsAtReset : Obligations.InvariantsAtReset := by
  refine ⟨frameInv_of_idle (by decide +kernel) rfl rfl rfl (.inl rfl), fun q => ?_, ?_⟩
  · cases q <;> exact ⟨rfl, fun _ => rfl⟩
  · exact ⟨⟨fun h => absurd rfl h, nofun⟩, nofun, nofun, nofun⟩

end Sys2Proof.Machine

/-! # What a step writes and where it goes (42_request_parser.md R144, 44_register_decoder.md R201, 45_transaction_sequencer.md R219,
60_exceptions.md R271) -/

namespace Sys2Proof.Machine

/-! ### Who writes the request registers and the accumulator file -/

/-- What an event does to `req_fn`, `req_addr`, `acc`, `pend` and the decoder's output, `Reset` apart: nothing, or a valid request
writes the first two, or a valid normal response the others. -/
inductive Writes (s t : State) : Prop
  | nothing (hreq : t.reqFn = s.reqFn ∧ t.reqAddr = s.reqAddr) (hacc : t.acc = s.acc ∧ t.pend = s.pend)
    (hout : ∃ more, t.out = s.out ++ more ∧ ∀ e ∈ more, fromDecoder e = false)
  | request (hph : s.ph = .reqBody) (ht : t.ph = .rspSyncId) (hacc : t.acc = s.acc ∧ t.pend = s.pend)
    (hout : ∃ bc c, t.out = s.out ++ [.reqFrame t.reqFn t.reqAddr bc true c c])
  | samples (hph : s.ph = .rspBody) (ht : t.ph = .reqSyncId) (hreq : t.reqFn = s.reqFn ∧ t.reqAddr = s.reqAddr)
    (hout : ∃ fn bc c m more, t.out = s.out ++ .rspFrame fn bc true c c m :: more)

theorem writes_self (s : State) : Writes s s := .nothing ⟨rfl, rfl⟩ ⟨rfl, rfl⟩ ⟨[], by simp, by simp⟩

/-- Fields that `Writes` does not speak of, and an event that is none of the decoder's, make no difference to it. -/
theorem writes_nothing_of_emit {s t : State} {e : OutEvent} (hreq : t.reqFn = s.reqFn ∧ t.reqAddr = s.reqAddr)
    (hacc : t.acc = s.acc ∧ t.pend = s.pend) (hout : t.out = s.out ++ [e]) (he : fromDecoder e = false) : Writes s t :=
  .nothing hreq hacc ⟨[e], hout, by simpa using he⟩

/-- A failure after some events, none of them the decoder's. -/
theorem writes_takeFailure (info : FailInfo) {s u : State} (hreq : u.reqFn = s.reqFn ∧ u.reqAddr = s.reqAddr)
    (hacc : u.acc = s.acc ∧ u.pend = s.pend) {more : List OutEvent} (hout : u.out = s.out ++ more)
    (hmore : ∀ e ∈ more, fromDecoder e = false) : Writes s (takeFailure info u) := by
  obtain ⟨e, hfail, he⟩ := takeFailure_out info u
  refine .nothing (by simpa using hreq) (by simpa using hacc) ⟨more ++ [.fail info.cause info, e], ?_, fun o ho => ?_⟩
  · rw [hfail, hout, List.append_assoc]
  · simp only [List.mem_append, List.mem_cons, List.not_mem_nil, or_false] at ho
    rcases ho with ho | rfl | rfl
    · exact hmore o ho
    · rfl
    · rcases he with rfl | rfl <;> rfl

theorem writes_completeRequest {s u : State} (hph : s.ph = .reqBody) (hreq : u.reqFn = s.reqFn ∧ u.reqAddr = s.reqAddr)
    (hacc : u.acc = s.acc ∧ u.pend = s.pend) (hout : u.out = s.out) (fn : Byte) (addr : Half) (bc : Option Byte)
    (body : List Byte) (crc : Half) : Writes s (completeRequest fn addr bc body crc u) := by
  by_cases h : crc16 (u.cfg.expectedSlave :: fn :: body) = crc
  · rw [completeRequest_valid h]
    exact .request hph rfl hacc ⟨bc, crc, congrArg (· ++ _) hout⟩
  · rw [completeRequest_invalid h]
    refine writes_takeFailure _ hreq hacc (congrArg (· ++ _) hout) ?_
    simp [fromDecoder]

theorem writes_completeNormal {s u : State} (hph : s.ph = .rspBody) (hreq : u.reqFn = s.reqFn ∧ u.reqAddr = s.reqAddr)
    (hacc : u.acc = s.acc ∧ u.pend = s.pend) (hout : u.out = s.out) (fn : Byte) (payload : List Byte) (crc : Half) :
    Writes s (completeNormal fn payload crc u) := by
  by_cases h : crc16 (u.cfg.expectedSlave :: fn :: normalBody payload) = crc
  · rw [completeNormal_valid h]
    obtain ⟨acc, pend, more, heq, -⟩ := decoderTouchesOnlyAccumulators
      (emit (.rspFrame fn (BitVec.ofNat 8 payload.length) true crc crc (fnMatch fn u.reqFn)) (noteCrc crc crc u))
      (samples u.reqAddr payload)
    rw [heq]
    refine .samples hph rfl hreq ⟨fn, BitVec.ofNat 8 payload.length, crc, fnMatch fn u.reqFn, more, ?_⟩
    simp [hout]
  · rw [completeNormal_invalid h]
    refine writes_takeFailure _ hreq hacc (congrArg (· ++ _) hout) ?_
    simp [fromDecoder]

theorem writes_completeException {s u : State} (hreq : u.reqFn = s.reqFn ∧ u.reqAddr = s.reqAddr)
    (hacc : u.acc = s.acc ∧ u.pend = s.pend) (hout : u.out = s.out) (fn err : Byte) (crc : Half) :
    Writes s (completeException fn err crc u) := by
  by_cases h : crc16 [u.cfg.expectedSlave, fn, err] = crc
  · rw [completeException_valid h]
    exact writes_nothing_of_emit hreq hacc (congrArg (· ++ _) hout) rfl
  · rw [completeException_invalid h]
    refine writes_takeFailure _ hreq hacc (congrArg (· ++ _) hout) ?_
    simp [fromDecoder]

theorem writes_of_byteStep {s t : State} {b : Byte} (h : ByteStep s b t) : Writes s t := by
  have keep : ∀ {u : State}, u.reqFn = s.reqFn → u.reqAddr = s.reqAddr → u.acc = s.acc → u.pend = s.pend → u.out = s.out →
      Writes s u := fun h1 h2 h3 h4 h5 => .nothing ⟨h1, h2⟩ ⟨h3, h4⟩ ⟨[], by simpa using h5, by simp⟩
  cases h with
  | halted => exact writes_self s
  | rearmed => exact writes_nothing_of_emit ⟨rfl, rfl⟩ ⟨rfl, rfl⟩ rfl rfl
  | found => exact keep rfl rfl rfl rfl rfl
  | passed => exact keep rfl rfl rfl rfl rfl
  | rejected => exact keep rfl rfl rfl rfl rfl
  | fixedHeader => exact writes_nothing_of_emit ⟨rfl, rfl⟩ ⟨rfl, rfl⟩ rfl rfl
  | varHeader => exact writes_nothing_of_emit ⟨rfl, rfl⟩ ⟨rfl, rfl⟩ rfl rfl
  | unsupported =>
    exact writes_takeFailure (more := [.header .req b s.skipped]) _ ⟨rfl, rfl⟩ ⟨rfl, rfl⟩ rfl (by simp [fromDecoder])
  | responseHeader => exact writes_nothing_of_emit ⟨rfl, rfl⟩ ⟨rfl, rfl⟩ rfl rfl
  | thirdByte => exact keep rfl rfl rfl rfl rfl
  | collected => exact keep rfl rfl rfl rfl rfl
  | byteCount => exact keep rfl rfl rfl rfl rfl
  | request hph _ _ addr bc body crc => exact writes_completeRequest hph ⟨rfl, rfl⟩ ⟨rfl, rfl⟩ rfl _ addr bc body crc
  | normal hph _ fn payload crc => exact writes_completeNormal (u := stored b s) hph ⟨rfl, rfl⟩ ⟨rfl, rfl⟩ rfl fn payload crc
  | exception _ _ fn err crc => exact writes_completeException ⟨rfl, rfl⟩ ⟨rfl, rfl⟩ rfl fn err crc

theorem writes_of_systemStep {s t : State} {ev : InEvent} (h : SystemStep s ev t) (hev : ev ≠ .reset) : Writes s t := by
  have fail : ∀ info, Writes s (takeFailure info s) :=
    fun info => writes_takeFailure (more := []) info ⟨rfl, rfl⟩ ⟨rfl, rfl⟩ (by simp) (by simp)
  cases h with
  | reset => exact absurd rfl hev
  | halted => exact writes_self s
  | quietIgnored => exact writes_self s
  | shortIgnored => exact writes_self s
  | returned => exact writes_nothing_of_emit ⟨rfl, rfl⟩ ⟨rfl, rfl⟩ rfl rfl
  | ioError => exact fail _
  | syncLost => exact writes_takeFailure (more := []) _ ⟨rfl, rfl⟩ ⟨rfl, rfl⟩ (by simp) (by simp)
  | shortRead => exact fail _

/-- A step from a state that meets the frame invariant is a reset, or writes as some event does; its output starts empty. -/
theorem writes_of_step {s t : State} (hinv : FrameInv s) (hstep : step s = .next t) :
    (∃ rest, s.inp = .reset :: rest ∧ t = resetBlock { s with inp := rest, out := [] })
      ∨ ∃ inp, Writes { s with inp := inp, out := [] } t := by
  cases frameStep_of_step hinv hstep with
  | waits => exact .inr ⟨s.inp, writes_self _⟩
  | byte _ h => exact .inr ⟨_, writes_of_byteStep h⟩
  | @system ev rest _ hi h =>
    by_cases hev : ev = .reset
    · subst hev
      exact .inl ⟨rest, hi, by cases h with | reset => rfl | halted _ hne => exact absurd rfl hne⟩
    · exact .inr ⟨rest, writes_of_systemStep h hev⟩

/-- Settles O51: of the three ways to write, only a valid request's touches the two registers. -/
theorem requestRegistersWriter : Obligations.RequestRegistersWriter := by
  intro s t hinv hstep hchange
  rcases writes_of_step hinv hstep with ⟨rest, hi, -⟩ | ⟨inp, hwrites⟩
  · exact .inl ⟨rest, hi⟩
  · cases hwrites with
    | nothing hreq => exact absurd hreq (by simpa [or_iff_not_imp_left] using hchange)
    | request hph ht _ hout => exact .inr ⟨hph, ht, hout⟩
    | samples _ _ hreq => exact absurd hreq (by simpa [or_iff_not_imp_left] using hchange)

/-- Settles O53: of the three ways to write, only a valid normal response's touches the accumulator file. -/
theorem accumulatorsOutliveFailures : Obligations.AccumulatorsOutliveFailures := by
  intro s t hinv hstep hchange
  rcases writes_of_step hinv hstep with ⟨rest, hi, -⟩ | ⟨inp, hwrites⟩
  · exact .inl ⟨rest, hi⟩
  · cases hwrites with
    | nothing _ hacc => exact absurd hacc (by simpa [or_iff_not_imp_left] using hchange)
    | request _ _ hacc => exact absurd hacc (by simpa [or_iff_not_imp_left] using hchange)
    | samples hph ht _ hout => exact .inr ⟨hph, ht, hout⟩

/-- Settles O52: of the three ways to write, only a valid normal response's emits events of the decoder. -/
theorem measurementsOnlyFromValidResponses : Obligations.MeasurementsOnlyFromValidResponses := by
  intro s t hinv hstep hevent
  obtain ⟨e, he, hdecoder⟩ := hevent
  rcases writes_of_step hinv hstep with ⟨rest, -, rfl⟩ | ⟨inp, hwrites⟩
  · cases he
  · cases hwrites with
    | nothing _ _ hout =>
      obtain ⟨more, hout, hmore⟩ := hout
      rw [hout] at he
      rw [hmore e he] at hdecoder
      cases hdecoder
    | request _ _ _ hout =>
      obtain ⟨bc, c, hout⟩ := hout
      rw [hout] at he
      rw [List.mem_singleton.mp he] at hdecoder
      cases hdecoder
    | samples hph _ _ hout => exact ⟨hph, hout⟩

/-! ### Where the phase register goes (R219) -/

theorem takeFailure_ph_recoverable {info : FailInfo} (s : State) (h : info.cause.recoverable = true) :
    (takeFailure info s).ph = if s.cfg.isLive then .resync else .halted := by
  rw [takeFailure_recoverable s h]
  split <;> rfl

theorem takeFailure_ph_halted {info : FailInfo} (s : State) (h : info.cause.recoverable = false) :
    (takeFailure info s).ph = .halted := by
  rw [takeFailure_halts (.inr h)]

theorem completeRequest_ph (fn : Byte) (addr : Half) (bc : Option Byte) (body : List Byte) (crc : Half) (s : State) :
    (completeRequest fn addr bc body crc s).ph = .rspSyncId
      ∨ (completeRequest fn addr bc body crc s).ph = if s.cfg.isLive then .resync else .halted := by
  by_cases h : crc16 (s.cfg.expectedSlave :: fn :: body) = crc
  · rw [completeRequest_valid h]
    exact .inl rfl
  · rw [completeRequest_invalid h]
    exact .inr (takeFailure_ph_recoverable _ rfl)

theorem completeNormal_ph (fn : Byte) (payload : List Byte) (crc : Half) (s : State) :
    (completeNormal fn payload crc s).ph = .reqSyncId
      ∨ (completeNormal fn payload crc s).ph = if s.cfg.isLive then .resync else .halted := by
  by_cases h : crc16 (s.cfg.expectedSlave :: fn :: normalBody payload) = crc
  · rw [completeNormal_valid h]
    exact .inl rfl
  · rw [completeNormal_invalid h]
    exact .inr (takeFailure_ph_recoverable _ rfl)

theorem completeException_ph (fn err : Byte) (crc : Half) (s : State) :
    (completeException fn err crc s).ph = .reqSyncId
      ∨ (completeException fn err crc s).ph = if s.cfg.isLive then .resync else .halted := by
  by_cases h : crc16 [s.cfg.expectedSlave, fn, err] = crc
  · rw [completeException_valid h]
    exact .inl rfl
  · rw [completeException_invalid h]
    exact .inr (takeFailure_ph_recoverable _ rfl)

/-- A byte moves the phase only as the table says. -/
theorem mayMove_of_byteStep {s t : State} {b : Byte} (hw : s.cfg.wf = true) (h : ByteStep s b t) (hne : t.ph ≠ s.ph) :
    MayMove s (.byte b) t.ph := by
  cases h with
  | halted => exact absurd rfl hne
  | rearmed => exact absurd rfl hne
  | found d hph hb => cases d <;> simp [MayMove, hph, searchPhase, candidatePhase, hb]
  | passed => exact absurd rfl hne
  | rejected d hph hb => cases d <;> simp [MayMove, hph, candidatePhase, skipCandidate, searchPhase, hb]
  | fixedHeader hph hb =>
    have hacc := syncAccept_of_requestLayout hw (mem_layouts_of_fixed hb)
    simp only [MayMove, hph, hacc, Bool.true_eq_false, if_false, if_pos hb]
  | varHeader hph hb =>
    have hacc := syncAccept_of_requestLayout hw (mem_layouts_of_var hb)
    simp only [MayMove, hph, hacc, Bool.true_eq_false, if_false, if_neg (not_mem_fixed_of_var hb), if_pos hb]
  | unsupported hph hb =>
    have hfixed : b ∉ ([1, 2, 3, 4, 5, 6] : List Byte) := fun h => not_mem_bareFns hw (mem_layouts_of_fixed h) hb
    have hvar : b ∉ ([15, 16] : List Byte) := fun h => not_mem_bareFns hw (mem_layouts_of_var h) hb
    simp only [MayMove, hph, syncAccept_of_bare hw hb, Bool.true_eq_false, if_false, if_neg hfixed, if_neg hvar]
    exact takeFailure_ph_recoverable _ rfl
  | responseHeader hph hb => simp [MayMove, hph, hb]
  | thirdByte hph => simp [MayMove, hph]
  | collected => exact absurd rfl hne
  | byteCount hph hneed => simp [MayMove, hph, hneed]
  | request hph hneed _ addr bc body crc =>
    simp only [MayMove, hph]
    exact ⟨hneed, completeRequest_ph _ addr bc body crc (stored b s)⟩
  | normal hph hneed fn payload crc =>
    simp only [MayMove, hph]
    exact ⟨hneed, completeNormal_ph fn payload crc (stored b s)⟩
  | exception hph hneed fn err crc =>
    simp only [MayMove, hph]
    exact ⟨hneed, completeException_ph fn err crc (stored b s)⟩

/-- So does every other event. -/
theorem mayMove_of_systemStep {s t : State} {ev : InEvent} (h : SystemStep s ev t) (hne : t.ph ≠ s.ph) : MayMove s ev t.ph := by
  cases h with
  | reset => rfl
  | halted => exact absurd rfl hne
  | quietIgnored => exact absurd rfl hne
  | shortIgnored => exact absurd rfl hne
  | returned hph => simp [MayMove, hph, returnFromFailure]
  | ioError hph =>
    rw [takeFailure_ph_halted _ rfl]
    cases h : s.ph <;> simp [MayMove, h] at hph ⊢
  | syncLost hph =>
    rw [loseSync, takeFailure_ph_halted _ rfl]
    cases h : s.ph <;> simp [MayMove, h, searching] at hph ⊢
  | shortRead hph =>
    rw [takeFailure_ph_recoverable _ rfl]
    cases h : s.ph <;> simp [MayMove, h, insideFrame] at hph ⊢

/-- Settles O60. -/
theorem phaseMovesOnlyAlongItsTable : Obligations.PhaseMovesOnlyAlongItsTable := by
  intro s t ev rest hinv hi hstep hne
  cases frameStep_of_step hinv hstep with
  | waits hnil => exact absurd rfl hne
  | @byte b rest' _ hi' h =>
    rw [hi] at hi'
    cases hi'
    exact mayMove_of_byteStep (s := { s with inp := rest, out := [] }) hinv.cfg_wf h hne
  | @system ev' rest' _ hi' h =>
    rw [hi] at hi'
    cases hi'
    exact mayMove_of_systemStep (s := { s with inp := rest, out := [] }) h hne

end Sys2Proof.Machine

/-! # What any step can do (45_transaction_sequencer.md R215, R225; 60_exceptions.md R241, R250, R252, R257; 70_reset_and_hazards.md R285)

Without the frame invariant the bytes that a frame ends with can decode to anything of their position. A fetch still only collects,
and an executed frame still ends in one of the five ways of `FrameEnd`; the rules that hold in every state need no more. -/

namespace Sys2Proof.Machine

/-! ### Collecting a byte -/

/-- What a fetch may write: the phase, to a parsing one, the frame in progress, `skipped`, and the report of a header. -/
def Collects (s t : State) : Prop :=
  ∃ ph fb len need fn skipped more,
    t = { s with ph := ph, fb := fb, len := len, need := need, fn := fn, skipped := skipped, out := s.out ++ more }
      ∧ ph.mode = .synced ∧ (more = [] ∨ ∃ d f n, more = [.header d f n])

/-- A change that reports nothing. -/
theorem collects_silent {s t : State} (hph : t.ph.mode = .synced)
    (ht : t = { s with ph := t.ph, fb := t.fb, len := t.len, need := t.need, fn := t.fn, skipped := t.skipped }) :
    Collects s t :=
  ⟨t.ph, t.fb, t.len, t.need, t.fn, t.skipped, [], by rw [List.append_nil]; exact ht, hph, .inl rfl⟩

theorem collects_accepted {s t : State} (d : Dir) (b : Byte) (hph : t.ph.mode = .synced)
    (ht : t = { accepted d b s with ph := t.ph, need := t.need }) : Collects s t :=
  ⟨t.ph, writeByte s.fb 1 b, 2, t.need, b, s.skipped, [.header d b s.skipped], ht, hph, .inr ⟨d, b, s.skipped, rfl⟩⟩

/-- The state in which the last byte of an instruction has been taken: a rejected byte is not stored (R119), the last byte of a frame is
(R141, R162), and a function byte in request position is stored and reported (R118). -/
inductive Taken (s : State) (b : Byte) : Dir → State → Prop
  | rejected (d : Dir) : Taken s b d s
  | last (d : Dir) : Taken s b d (stored b s)
  | header : Taken s b .req (accepted .req b s)

/-- What a fetch answers: a state that has collected, or an instruction that some bytes decode to, its last byte taken. -/
inductive Fetches (s : State) (b : Byte) : Fetched → Prop
  | more {t : State} (ht : Collects s t) : Fetches s b (.more t)
  | complete {t : State} {i : Instr} {d : Dir} {bytes : List Byte} (ht : Taken s b d t)
    (hdec : decode t.cfg (.frame d bytes) = .ok (i, [])) : Fetches s b (.complete i t)

theorem fetches_endFrame {s t : State} {b : Byte} {d : Dir} {r : Fetched} (ht : Taken s b d t) (h : endFrame d t = .next r) :
    Fetches s b r := by
  obtain ⟨i, bytes, rfl, -, hdec⟩ := endFrame_cases h
  exact .complete ht hdec

theorem fetches_endCandidate {s : State} {d : Dir} {b : Byte} {r : Fetched} (h : endCandidate d b s = .next r) :
    Fetches s b r := by
  obtain ⟨bytes, -, h⟩ := andThen_next.mp h
  unfold decodeWhole at h
  split at h
  next i hdec => cases h; exact .complete (.rejected d) hdec
  next => cases h
  next => cases h

theorem fetches_fetchByteCount {s : State} {b : Byte} {r : Fetched} (h : fetchByteCount b s = .next r) : Fetches s b r := by
  rw [fetchByteCount_eq] at h
  cases h
  exact .more (collects_silent (by dsimp only; split <;> rfl) rfl)

theorem fetches_fetchResponseFunction {s : State} {b : Byte} {r : Fetched} (h : fetchResponseFunction b s = .next r) :
    Fetches s b r := by
  cases hacc : syncAccept s.cfg b with
  | false =>
    rw [fetchResponseFunction_rejected hacc] at h
    exact fetches_endCandidate h
  | true =>
    rw [fetchResponseFunction_accepted hacc] at h
    cases h
    exact .more (collects_accepted .rsp b rfl rfl)

theorem fetches_fetchRequestFunction {s : State} {b : Byte} {r : Fetched} (h : fetchRequestFunction b s = .next r) :
    Fetches s b r := by
  cases hacc : syncAccept s.cfg b with
  | false =>
    rw [fetchRequestFunction_rejected hacc] at h
    exact fetches_endCandidate h
  | true =>
    rw [fetchRequestFunction_accepted hacc] at h
    split_ifs at h
    · cases h
      exact .more (collects_accepted .req b rfl rfl)
    · cases h
      exact .more (collects_accepted .req b rfl rfl)
    · exact fetches_endFrame .header h

section
variable {s : State} {b : Byte} {r : Fetched} (hph : s.ph.mode = .synced)
include hph

theorem collects_stored : Collects s (stored b s) := collects_silent hph rfl

theorem fetches_fetchSlave {d : Dir} (h : fetchSlave d b s = .next r) : Fetches s b r := by
  by_cases hb : b = s.cfg.expectedSlave
  · rw [fetchSlave_found hb] at h
    cases h
    exact .more (collects_silent (by cases d <;> rfl) rfl)
  · rw [fetchSlave_passed hb] at h
    cases h
    exact .more (collects_silent hph rfl)

theorem fetches_fetchPrefix (h : fetchPrefix b s = .next r) : Fetches s b r := by
  obtain ⟨t, hstore, h⟩ := andThen_next.mp h
  obtain ⟨-, rfl⟩ := storeByte_cases hstore
  split at h
  · split at h
    · cases h
      exact .more (collects_silent rfl rfl)
    · cases h
  · cases h
    exact .more (collects_stored hph)

theorem fetches_fetchBody {d : Dir} (h : fetchBody d b s = .next r) : Fetches s b r := by
  obtain ⟨t, hstore, h⟩ := andThen_next.mp h
  obtain ⟨-, rfl⟩ := storeByte_cases hstore
  split at h
  · exact fetches_endFrame (.last d) h
  · cases h
    exact .more (collects_stored hph)

/-- In a parsing phase a fetch collects, and may end an instruction. -/
theorem fetches_of_fetchByte (h : fetchByte b s = .next r) : Fetches s b r := by
  rcases phase_rules s.ph with ⟨d, hd⟩ | hd | hd | hd | hd | ⟨d, hd⟩ | hd | hd
  · exact fetches_fetchSlave hph (fetchByte_search hd b ▸ h)
  · exact fetches_fetchRequestFunction (fetchByte_reqSyncFn hd b ▸ h)
  · exact fetches_fetchResponseFunction (fetchByte_rspSyncFn hd b ▸ h)
  · exact fetches_fetchPrefix hph (fetchByte_reqPrefix hd b ▸ h)
  · exact fetches_fetchByteCount (fetchByte_rspBc hd b ▸ h)
  · exact fetches_fetchBody hph (fetchByte_body hd b ▸ h)
  · rw [hd] at hph; cases hph
  · rw [hd] at hph; cases hph

end

/-! ### The five ends of a frame (R119, R139, R144, R145, R168, R169, R171) -/

/-- How executing a decoded frame of a position ends. The event `e` is the report of the frame. -/
inductive FrameEnd (s : State) : Dir → State → Prop
  | handedOver {e : OutEvent} (he : verdictOf e = some true) (c : Half) (fn : Byte) (addr : Half) :
    FrameEnd s .req (startSearch .rspSyncId { emit e (noteCrc c c s) with reqFn := fn, reqAddr := addr })
  | ended {e : OutEvent} (he : verdictOf e = some true) (c : Half) (xs : List (Half × Half)) (hxs : xs.length ≤ 127) :
    FrameEnd s .rsp (startSearch .reqSyncId (decodeAll xs (emit e (noteCrc c c s))))
  | mismatched (d : Dir) {e : OutEvent} (he : verdictOf e = some false) (c r : Half) :
    FrameEnd s d (takeFailure (.checksumMismatch c r) (emit e (noteCrc c r s)))
  | unsupported (f : Byte) : FrameEnd s .req (takeFailure (.unsupportedFunction f) s)
  | skipped (d : Dir) : FrameEnd s d (skipCandidate d s)

theorem frameEnd_completeRequest (fn : Byte) (addr : Half) (bc : Option Byte) (body : List Byte) (crc : Half) (s : State) :
    FrameEnd s .req (completeRequest fn addr bc body crc s) := by
  by_cases h : crc16 (s.cfg.expectedSlave :: fn :: body) = crc
  · rw [completeRequest_valid h]
    exact .handedOver rfl crc fn addr
  · rw [completeRequest_invalid h]
    exact .mismatched .req rfl _ crc

theorem frameEnd_completeNormal (fn : Byte) {payload : List Byte} (hlen : payload.length ≤ 255) (crc : Half) (s : State) :
    FrameEnd s .rsp (completeNormal fn payload crc s) := by
  by_cases h : crc16 (s.cfg.expectedSlave :: fn :: normalBody payload) = crc
  · rw [completeNormal_valid h]
    exact .ended rfl crc _ (by rw [length_samples]; omega)
  · rw [completeNormal_invalid h]
    exact .mismatched .rsp rfl _ crc

theorem frameEnd_completeException (fn err : Byte) (crc : Half) (s : State) :
    FrameEnd s .rsp (completeException fn err crc s) := by
  by_cases h : crc16 [s.cfg.expectedSlave, fn, err] = crc
  · rw [completeException_valid h]
    exact .ended (xs := []) rfl crc (by decide)
  · rw [completeException_invalid h]
    exact .mismatched .rsp rfl _ crc

/-- An instruction that some bytes decode to ends in one of the five ways. -/
theorem frameEnd_of_exec {s t : State} {d : Dir} {bytes : List Byte} {i : Instr}
    (hdec : decode s.cfg (.frame d bytes) = .ok (i, [])) (h : exec i s = .next t) : FrameEnd s d t := by
  cases d with
  | req =>
    obtain ⟨frame, hframe, -⟩ := requestFrame_of_decode hdec
    cases hframe with
    | fixed hmk addr p2 p3 crc =>
      rw [exec_fixedRequest hmk] at h
      cases h
      exact frameEnd_completeRequest ..
    | var hmk addr q data crc =>
      rw [exec_varRequest hmk] at h
      cases h
      exact frameEnd_completeRequest ..
    | bare hi =>
      rw [exec_bareRequest hi] at h
      cases h
      exact .unsupported _
    | noise => cases h; exact .skipped .req
  | rsp =>
    obtain ⟨frame, hframe, -⟩ := responseFrame_of_decode hdec
    cases hframe with
    | normal hmk payload crc hlen =>
      rw [exec_normalResponse hmk] at h
      cases h
      exact frameEnd_completeNormal _ hlen crc s
    | exception hmk err crc =>
      rw [exec_exceptionResponse hmk] at h
      cases h
      exact frameEnd_completeException ..
    | noise => cases h; exact .skipped .rsp

/-! ### Any step -/

/-- What a step can be, in any state. -/
inductive AnyStep (s : State) : State → Prop
  | waits (hi : s.inp = []) : AnyStep s { s with out := [] }
  | system {ev : InEvent} {rest : List InEvent} {t : State} (hi : s.inp = ev :: rest)
    (h : SystemStep { s with inp := rest, out := [] } ev t) : AnyStep s t
  | absorbed {b : Byte} {rest : List InEvent} (hi : s.inp = .byte b :: rest) (hph : s.ph = .halted) :
    AnyStep s { s with inp := rest, out := [] }
  | rearmed {b : Byte} {rest : List InEvent} (hi : s.inp = .byte b :: rest) (hph : s.ph = .resync) :
    AnyStep s (emit .quietArm { s with inp := rest, out := [] })
  | collected {b : Byte} {rest : List InEvent} {t : State} (hi : s.inp = .byte b :: rest) (hph : s.ph.mode = .synced)
    (h : Collects { s with inp := rest, out := [] } t) : AnyStep s t
  | executed {b : Byte} {rest : List InEvent} {d : Dir} {u t : State} (hi : s.inp = .byte b :: rest) (hph : s.ph.mode = .synced)
    (hu : Taken { s with inp := rest, out := [] } b d u) (ht : FrameEnd u d t) : AnyStep s t

theorem anyStep_of_fetched {s t : State} {b : Byte} {rest : List InEvent} {r : Fetched} (hi : s.inp = .byte b :: rest)
    (hph : s.ph.mode = .synced) (hr : Fetches { s with inp := rest, out := [] } b r) (h : runFetched r = .next t) :
    AnyStep s t := by
  cases hr with
  | more ht => cases h; exact .collected hi hph ht
  | complete hu hdec => exact .executed hi hph hu (frameEnd_of_exec hdec h)

theorem mode_cases (p : Phase) : p.mode = .synced ∨ p = .resync ∨ p = .halted := by
  cases p <;> decide

theorem anyStep_of_byte {s t : State} {b : Byte} {rest : List InEvent} (hi : s.inp = .byte b :: rest)
    (h : takeEvent (.byte b) { s with inp := rest, out := [] } = .next t) : AnyStep s t := by
  rcases mode_cases s.ph with hph | hph | hph
  · rw [takeEvent_byte fun hhalt => by rw [show s.ph = .halted from hhalt] at hph; cases hph] at h
    obtain ⟨r, hfetch, hrun⟩ := andThen_next.mp h
    exact anyStep_of_fetched hi hph (fetches_of_fetchByte hph hfetch) hrun
  · rw [takeEvent_byte_resync (s := { s with inp := rest, out := [] }) hph b] at h
    cases h
    exact .rearmed hi hph
  · rw [takeEvent_halted (s := { s with inp := rest, out := [] }) (ev := .byte b) hph nofun] at h
    cases h
    exact .absorbed hi hph

theorem anyStep_of_step {s t : State} (h : step s = .next t) : AnyStep s t := by
  rcases step_next h with ⟨hi, rfl⟩ | ⟨ev, rest, hi, h⟩
  · exact .waits hi
  · by_cases hbyte : ∃ b, ev = .byte b
    · obtain ⟨b, rfl⟩ := hbyte
      exact anyStep_of_byte hi h
    · obtain ⟨u, hu, hcases⟩ := systemStep_of_not_byte (fun b hb => hbyte ⟨b, hb⟩) { s with inp := rest, out := [] }
      rw [hu] at h
      cases h
      exact .system hi hcases

/-! ### The configuration and the input (R285, R40) -/

/-- No effect looks at the events still to arrive, and none writes the configuration. -/
def KeepsInput (s t : State) : Prop := t.cfg = s.cfg ∧ t.inp = s.inp

theorem keepsInput_takeFailure {s u : State} (info : FailInfo) (h : KeepsInput s u) : KeepsInput s (takeFailure info u) := by
  simpa [KeepsInput] using h

theorem keepsInput_systemStep {s t : State} {ev : InEvent} (h : SystemStep s ev t) : KeepsInput s t := by
  cases h with
  | reset => exact ⟨rfl, rfl⟩
  | halted => exact ⟨rfl, rfl⟩
  | quietIgnored => exact ⟨rfl, rfl⟩
  | shortIgnored => exact ⟨rfl, rfl⟩
  | returned => exact ⟨rfl, rfl⟩
  | ioError => exact keepsInput_takeFailure _ ⟨rfl, rfl⟩
  | syncLost => exact keepsInput_takeFailure _ ⟨rfl, rfl⟩
  | shortRead => exact keepsInput_takeFailure _ ⟨rfl, rfl⟩

theorem keepsInput_frameEnd {s t : State} {d : Dir} (h : FrameEnd s d t) : KeepsInput s t := by
  cases h with
  | handedOver => exact ⟨rfl, rfl⟩
  | @ended e _ c xs =>
    obtain ⟨_, _, _, heq, -⟩ := decoderTouchesOnlyAccumulators (emit e (noteCrc c c s)) xs
    rw [heq]
    exact ⟨rfl, rfl⟩
  | mismatched => exact keepsInput_takeFailure _ ⟨rfl, rfl⟩
  | unsupported => exact keepsInput_takeFailure _ ⟨rfl, rfl⟩
  | skipped => exact ⟨rfl, rfl⟩

theorem keepsInput_taken {s t : State} {b : Byte} {d : Dir} (h : Taken s b d t) : KeepsInput s t := by
  cases h <;> exact ⟨rfl, rfl⟩

/-- Settles O58: a step takes the first event off the input, and no effect touches the configuration or the rest. -/
theorem configurationConstant : Obligations.ConfigurationConstant := by
  intro s t hstep
  cases anyStep_of_step hstep with
  | waits hi => exact ⟨rfl, by rw [show s.inp.tail = [] by rw [hi]; rfl]; exact hi⟩
  | system hi h => rw [hi]; exact keepsInput_systemStep h
  | absorbed hi => rw [hi]; exact ⟨rfl, rfl⟩
  | rearmed hi => rw [hi]; exact ⟨rfl, rfl⟩
  | collected hi _ h =>
    obtain ⟨_, _, _, _, _, _, _, rfl, -⟩ := h
    rw [hi]
    exact ⟨rfl, rfl⟩
  | executed hi _ hu ht =>
    obtain ⟨hcfg, hinp⟩ := keepsInput_taken hu
    obtain ⟨hcfg', hinp'⟩ := keepsInput_frameEnd ht
    rw [hi]
    exact ⟨hcfg'.trans hcfg, hinp'.trans hinp⟩

/-! ### The accumulator invariant (R28, R201 item 5) -/

theorem accInv_of_eq {s t : State} (h : AccInv s) (hacc : t.acc = s.acc) (hpend : t.pend = s.pend) : AccInv t := by
  unfold AccInv
  rw [hacc, hpend]
  exact h

theorem accInv_setPair {s : State} (h : AccInv s) (q : Q32) {a : Word} {p : Bool} (hlow : a.extractLsb' 0 16 = 0)
    (hpend : p = false → a = 0) : AccInv (setPair q a p s) := by
  intro r
  by_cases hr : r = q
  · subst hr
    rw [setPair_acc, setPair_pend, perGet_perSet_same, perGet_perSet_same]
    exact ⟨hlow, hpend⟩
  · rw [setPair_acc, setPair_pend, perGet_perSet_other _ q r _ hr, perGet_perSet_other _ q r _ hr]
    exact h r

theorem highWord_low (v : Half) : (highWord v).extractLsb' 0 16 = 0 := by
  apply BitVec.eq_of_getLsbD_eq
  intro i hi
  simp [highWord, hi]

theorem accInv_runEntry {s : State} (h : AccInv s) (e : Entry) (v : Half) : AccInv (runEntry e v s) := by
  cases e with
  | single q signed exp10 unit => exact accInv_of_eq h rfl rfl
  | high q => exact accInv_setPair h q (highWord_low v) nofun
  | low q signed exp10 unit =>
    rw [runEntry]
    split
    · exact accInv_setPair (accInv_of_eq h rfl rfl) q rfl fun _ => rfl
    · exact accInv_of_eq h rfl rfl

theorem accInv_decodeAll {s : State} (h : AccInv s) (xs : List (Half × Half)) : AccInv (decodeAll xs s) := by
  induction xs generalizing s with
  | nil => exact h
  | cons p rest ih =>
    refine ih ?_
    rcases decodeRegister_cases p.1 p.2 s with heq | ⟨e, heq⟩ <;> rw [heq]
    · exact h
    · exact accInv_runEntry h e p.2

theorem accInv_takeFailure {u : State} (h : AccInv u) (info : FailInfo) : AccInv (takeFailure info u) :=
  accInv_of_eq h (by simp) (by simp)

theorem accInv_systemStep {s t : State} {ev : InEvent} (hinv : AccInv s) (h : SystemStep s ev t) : AccInv t := by
  cases h with
  | reset =>
    obtain ⟨-, hacc, -⟩ := invariantsAtReset
    exact accInv_of_eq hacc rfl rfl
  | halted => exact hinv
  | quietIgnored => exact hinv
  | shortIgnored => exact hinv
  | returned => exact accInv_of_eq hinv rfl rfl
  | ioError => exact accInv_takeFailure hinv _
  | syncLost => exact accInv_takeFailure (by exact hinv) (.syncLost s.ph s.skipped)
  | shortRead => exact accInv_takeFailure hinv _

theorem accInv_frameEnd {s t : State} {d : Dir} (hinv : AccInv s) (h : FrameEnd s d t) : AccInv t := by
  cases h with
  | handedOver => exact accInv_of_eq hinv rfl rfl
  | @ended e _ c xs =>
    exact accInv_of_eq (accInv_decodeAll (s := emit e (noteCrc c c s)) (accInv_of_eq hinv rfl rfl) xs) rfl rfl
  | mismatched => exact accInv_takeFailure (by exact hinv) _
  | unsupported => exact accInv_takeFailure hinv _
  | skipped => exact accInv_of_eq hinv rfl rfl

/-- Settles O49: outside the decoder the accumulator file is kept or reset, and the decoder's entries keep the invariant. -/
theorem accumulatorInvariantKept : Obligations.AccumulatorInvariantKept := by
  intro s t hinv hstep
  cases anyStep_of_step hstep with
  | waits => exact hinv
  | system _ h => exact accInv_systemStep (s := { s with inp := _, out := [] }) hinv h
  | absorbed => exact hinv
  | rearmed => exact hinv
  | collected _ _ h =>
    obtain ⟨_, _, _, _, _, _, _, rfl, -⟩ := h
    exact hinv
  | executed _ _ hu ht =>
    refine accInv_frameEnd ?_ ht
    cases hu <;> exact accInv_of_eq hinv rfl rfl

/-! ### The status invariant (R30, R250, R257) -/

theorem cause_ne_none (info : FailInfo) : info.cause ≠ .none := by
  cases info <;> exact nofun

/-- Before a halt no cause is recorded and no clean end. -/
theorem StatusInv.running {s : State} (h : StatusInv s) (hph : s.ph ≠ .halted) : s.haltCause = .none ∧ s.cleanEof = false := by
  obtain ⟨hhalt, -, -, hclean⟩ := h
  have hnone : s.haltCause = .none := not_not.mp fun hne => hph (hhalt.mp hne)
  refine ⟨hnone, ?_⟩
  cases hc : s.cleanEof with
  | false => rfl
  | true => exact absurd (hclean hc) (by rw [hnone]; exact nofun)

theorem statusInv_of_synced {t : State} (hph : t.ph.mode = .synced) (hhalt : t.haltCause = .none) (hclean : t.cleanEof = false) :
    StatusInv t := by
  have hne : ∀ p : Phase, p.mode ≠ .synced → t.ph ≠ p := by rintro p hp rfl; exact hp hph
  have hhalted := hne .halted nofun
  have hresync := hne .resync nofun
  exact ⟨⟨fun h => absurd hhalt h, fun h => absurd h hhalted⟩, fun h => absurd h hhalted, fun h => absurd h hresync,
    fun h => by rw [hclean] at h; cases h⟩

/-- A failure halts with its cause, or resynchronises on a live link. -/
theorem statusInv_takeFailure {u : State} (hhalt : u.haltCause = .none) (info : FailInfo)
    (hclean : u.cleanEof = true → info.cause = .syncLost) : StatusInv (takeFailure info u) := by
  rcases takeFailure_cases info u with ⟨hlive, hcause, heq⟩ | ⟨-, heq⟩ <;> rw [heq]
  · refine ⟨⟨fun h => absurd hhalt h, nofun⟩, nofun, fun _ => ⟨hcause, hlive⟩, fun h => ?_⟩
    rw [hclean h] at hcause
    cases hcause
  · exact ⟨⟨fun _ => rfl, fun _ => cause_ne_none info⟩, fun _ => rfl, nofun, hclean⟩

theorem statusInv_systemStep {s t : State} {ev : InEvent} (hinv : StatusInv s) (h : SystemStep s ev t) : StatusInv t := by
  cases h with
  | reset => exact statusInv_of_synced rfl rfl rfl
  | halted => exact hinv
  | quietIgnored => exact hinv
  | shortIgnored => exact hinv
  | returned hph =>
    obtain ⟨hhalt, hclean⟩ := hinv.running (by rw [hph]; exact nofun)
    exact statusInv_of_synced rfl hhalt hclean
  | ioError hph =>
    obtain ⟨hhalt, hclean⟩ := hinv.running hph
    exact statusInv_takeFailure hhalt _ fun h => by rw [hclean] at h; cases h
  | syncLost hph =>
    obtain ⟨hhalt, -⟩ := hinv.running (searching_not_halted hph)
    exact statusInv_takeFailure (by exact hhalt) (.syncLost s.ph s.skipped) fun _ => rfl
  | shortRead hph =>
    obtain ⟨hhalt, hclean⟩ := hinv.running (insideFrame_not_halted hph)
    exact statusInv_takeFailure hhalt _ fun h => by rw [hclean] at h; cases h

theorem statusInv_frameEnd {s t : State} {d : Dir} (hhalt : s.haltCause = .none) (hclean : s.cleanEof = false)
    (h : FrameEnd s d t) : StatusInv t := by
  have hfalse : ∀ info : FailInfo, s.cleanEof = true → info.cause = .syncLost := fun _ h => by rw [hclean] at h; cases h
  cases h with
  | handedOver => exact statusInv_of_synced rfl hhalt hclean
  | @ended e _ c xs =>
    obtain ⟨_, _, _, heq, -⟩ := decoderTouchesOnlyAccumulators (emit e (noteCrc c c s)) xs
    rw [heq]
    exact statusInv_of_synced rfl hhalt hclean
  | mismatched => exact statusInv_takeFailure (by exact hhalt) _ (by exact hfalse _)
  | unsupported => exact statusInv_takeFailure (by exact hhalt) _ (by exact hfalse _)
  | skipped => exact statusInv_of_synced (by cases d <;> rfl) hhalt hclean

theorem not_halted_of_synced {p : Phase} (h : p.mode = .synced) : p ≠ .halted := by
  rintro rfl
  cases h

/-- Settles O50: only failure entry writes the status registers, and it writes them together. -/
theorem statusInvariantKept : Obligations.StatusInvariantKept := by
  intro s t hinv hstep
  cases anyStep_of_step hstep with
  | waits => exact hinv
  | system _ h => exact statusInv_systemStep (s := { s with inp := _, out := [] }) hinv h
  | absorbed => exact hinv
  | rearmed => exact hinv
  | collected _ hph h =>
    obtain ⟨hhalt, hclean⟩ := hinv.running (not_halted_of_synced hph)
    obtain ⟨_, _, _, _, _, _, _, rfl, hmode, -⟩ := h
    exact statusInv_of_synced hmode hhalt hclean
  | executed _ hph hu ht =>
    obtain ⟨hhalt, hclean⟩ := hinv.running (not_halted_of_synced hph)
    refine statusInv_frameEnd ?_ ?_ ht
    · cases hu <;> exact hhalt
    · cases hu <;> exact hclean

end Sys2Proof.Machine

/-! # What a step emits (45_transaction_sequencer.md R225; 60_exceptions.md R241, R250, R252, R257; 70_reset_and_hazards.md R288) -/

namespace Sys2Proof.Machine

/-- The events that report a header or a frame (10_state.md R44). -/
def isReport : OutEvent → Bool
  | .header _ _ _ => true
  | .reqFrame _ _ _ _ _ _ => true
  | .rspFrame _ _ _ _ _ _ => true
  | .excFrame _ _ _ _ _ _ => true
  | .meas _ _ _ _ => false
  | .lowWithoutHigh _ => false
  | .fail _ _ => false
  | .quietArm => false
  | .resynced => false
  | .halt _ => false

theorem isReport_of_verdict {e : OutEvent} {v : Bool} (h : verdictOf e = some v) : isReport e = true := by
  cases e <;> simp_all [verdictOf, isReport]

/-- A report is no event of the decoder and no failure report. -/
theorem plain_of_isReport {o : OutEvent} (h : isReport o = true) : fromDecoder o = false ∧ ∀ c i, o ≠ .fail c i := by
  cases o <;> simp_all [isReport, fromDecoder]

/-- The output of a step from phase `p`, under configuration `c`: reports alone; the report of a valid response and what its samples
emit; the timer's two events in `RESYNC`; or a failure entry after the reports. -/
inductive Output (c : Config) (p : Phase) (t : State) : Prop
  | reports (hout : ∀ e ∈ t.out, isReport e = true) (hlen : t.out.length ≤ 2) (hph : t.ph ≠ .resync ∨ t.ph = p)
  | samples {e : OutEvent} {more : List OutEvent} (hout : t.out = e :: more) (he : isReport e = true)
    (hmore : ∀ o ∈ more, fromDecoder o = true) (hlen : more.length ≤ 127) (hph : t.ph = .reqSyncId)
  | timer {e : OutEvent} (hph : p = .resync) (hout : t.out = [e]) (he : e = .quietArm ∨ e = .resynced)
  | failed {info : FailInfo} {u : State} (ht : t = takeFailure info u) (hout : ∀ e ∈ u.out, isReport e = true)
    (hlen : u.out.length ≤ 2) (hph : u.ph = p) (hcfg : u.cfg = c)

/-- A step that emits nothing. -/
theorem output_silent {c : Config} {p : Phase} {t : State} (hout : t.out = []) (hph : t.ph ≠ .resync ∨ t.ph = p) : Output c p t :=
  .reports (by simp [hout]) (by simp [hout]) hph

/-- A failure entry that no report precedes. -/
theorem output_failed_silent (info : FailInfo) {u : State} (hout : u.out = []) : Output u.cfg u.ph (takeFailure info u) :=
  .failed rfl (by simp [hout]) (by simp [hout]) rfl rfl

theorem output_systemStep {s t : State} {ev : InEvent} (hout : s.out = []) (h : SystemStep s ev t) : Output s.cfg s.ph t := by
  cases h with
  | reset => exact output_silent rfl (.inl nofun)
  | halted => exact output_silent hout (.inr rfl)
  | quietIgnored => exact output_silent hout (.inr rfl)
  | shortIgnored => exact output_silent hout (.inr rfl)
  | returned hph => exact .timer hph (by simp [returnFromFailure, hout]) (.inr rfl)
  | ioError => exact output_failed_silent _ hout
  | syncLost =>
    exact output_failed_silent (.syncLost s.ph s.skipped) (u := { s with cleanEof := cleanEnd s.ph s.skipped }) hout
  | shortRead => exact output_failed_silent _ hout

/-- Taking a byte reports at most a header. -/
theorem taken_reports {s u : State} {b : Byte} {d : Dir} (hout : s.out = []) (h : Taken s b d u) :
    u.ph = s.ph ∧ u.cfg = s.cfg ∧ (∀ e ∈ u.out, isReport e = true) ∧ u.out.length ≤ 1 := by
  cases h with
  | rejected => exact ⟨rfl, rfl, by simp [hout], by simp [hout]⟩
  | last => exact ⟨rfl, rfl, by simp [stored, hout], by simp [stored, hout]⟩
  | header => exact ⟨rfl, rfl, by simp [accepted, hout, isReport], by simp [accepted, hout]⟩

/-- In response position the last byte is taken in silence. -/
theorem taken_rsp_out {s u : State} {b : Byte} (h : Taken s b .rsp u) : u.out = s.out := by
  cases h <;> rfl

theorem output_frameEnd {s u t : State} {b : Byte} {d : Dir} (hout : s.out = []) (hu : Taken s b d u) (h : FrameEnd u d t) :
    Output s.cfg s.ph t := by
  obtain ⟨hph, hcfg, hreports, hlen⟩ := taken_reports hout hu
  have hmore : ∀ e, isReport e = true → ∀ o ∈ u.out ++ [e], isReport o = true := fun e he o ho => by
    rcases List.mem_append.mp ho with ho | ho
    · exact hreports o ho
    · rwa [List.mem_singleton.mp ho]
  have hlen' : ∀ e : OutEvent, (u.out ++ [e]).length ≤ 2 := fun e => by simpa using hlen
  cases h with
  | @handedOver e he => exact .reports (hmore e (isReport_of_verdict he)) (hlen' e) (.inl nofun)
  | @ended e he c xs hxs =>
    obtain ⟨_, _, more, heq, hcount, hdec⟩ := decoderTouchesOnlyAccumulators (emit e (noteCrc c c u)) xs
    rw [heq]
    refine .samples (e := e) (more := more) ?_ (isReport_of_verdict he) hdec (hcount.trans hxs) rfl
    simp [startSearch, taken_rsp_out hu, hout]
  | @mismatched _ e he c r => exact .failed rfl (hmore e (isReport_of_verdict he)) (hlen' e) hph hcfg
  | unsupported f => exact .failed rfl hreports (hlen.trans (by decide)) hph hcfg
  | skipped => exact .reports hreports (hlen.trans (by decide)) (.inl (by cases d <;> exact nofun))

theorem not_resync_of_synced {p : Phase} (h : p.mode = .synced) : p ≠ .resync := by
  rintro rfl
  cases h

theorem output_of_step {s t : State} (hstep : step s = .next t) : Output s.cfg s.ph t := by
  cases anyStep_of_step hstep with
  | waits => exact output_silent rfl (.inr rfl)
  | system _ h => exact output_systemStep (s := { s with inp := _, out := [] }) rfl h
  | absorbed => exact output_silent rfl (.inr rfl)
  | rearmed _ hph => exact .timer hph rfl (.inl rfl)
  | collected _ _ h =>
    obtain ⟨_, _, _, _, _, _, more, rfl, hmode, hmore⟩ := h
    refine .reports ?_ ?_ (.inl (not_resync_of_synced hmode))
    · rcases hmore with rfl | ⟨d, f, n, rfl⟩ <;> simp [isReport]
    · rcases hmore with rfl | ⟨d, f, n, rfl⟩ <;> simp
  | executed _ _ hu ht => exact output_frameEnd (s := { s with inp := _, out := [] }) rfl hu ht

/-- Settles O54: at most two reports, or one report and the events of at most 127 samples. -/
theorem outputIsBounded : Obligations.OutputIsBounded := by
  intro s t hstep
  cases output_of_step hstep with
  | reports _ hlen => omega
  | samples hout _ _ hlen => rw [hout, List.length_cons]; omega
  | timer _ hout => simp [hout]
  | @failed info u ht _ hlen =>
    obtain ⟨e, heq, -⟩ := takeFailure_out info u
    rw [ht, heq, List.length_append]
    exact (Nat.add_le_add_right hlen 2).trans (by decide)

/-- Settles O55: of the four outputs only a failure entry holds a failure report. -/
theorem failureEndsItsStep : Obligations.FailureEndsItsStep := by
  intro s t cause info hstep hmem
  cases output_of_step hstep with
  | reports hout => cases hout _ hmem
  | samples heq he hmore =>
    rw [heq] at hmem
    rcases List.mem_cons.mp hmem with rfl | hmem
    · cases he
    · cases hmore _ hmem
  | timer _ heq he =>
    rw [heq] at hmem
    rw [← List.mem_singleton.mp hmem] at he
    rcases he with he | he <;> cases he
  | @failed i u ht hout _ hph =>
    obtain ⟨e, heq, he⟩ := takeFailure_out i u
    have hreport : OutEvent.fail cause info = .fail i.cause i := by
      rw [ht, heq, List.mem_append] at hmem
      rcases hmem with hmem | hmem
      · cases hout _ hmem
      · rcases List.mem_pair.mp hmem with h | rfl
        · exact h
        · rcases he with he | he <;> cases he
    cases hreport
    rw [ht]
    exact ⟨u.out, e, heq, he, rfl, fun o ho => plain_of_isReport (hout o ho), takeFailure_failCause .., by rw [takeFailure_failPh, hph]⟩

/-- Settles O56: on a capture no state with the status invariant is in RESYNC, and failure entry halts. -/
theorem captureNeverWaits : Obligations.CaptureNeverWaits := by
  intro s t hcapture ⟨_, _, hlive, _⟩ hstep
  have hs : s.ph ≠ .resync := fun h => by
    obtain ⟨-, htrue⟩ := hlive h
    rw [hcapture] at htrue
    cases htrue
  cases output_of_step hstep with
  | reports hout _ hph =>
    refine ⟨fun h => (by cases hout _ h), fun h => (by cases hout _ h), ?_⟩
    rcases hph with hph | hph
    · exact hph
    · rwa [hph]
  | @samples e more heq he hmore _ hph =>
    have hnone : ∀ o, isReport o = false → fromDecoder o = false → o ∉ t.out := fun o hr hd ho => by
      rw [heq] at ho
      rcases List.mem_cons.mp ho with rfl | ho
      · rw [he] at hr; cases hr
      · rw [hmore o ho] at hd; cases hd
    exact ⟨hnone _ rfl rfl, hnone _ rfl rfl, by rw [hph]; exact nofun⟩
  | timer hph => exact absurd hph hs
  | @failed info u ht hout _ _ hcfg =>
    rw [ht, takeFailure_halts (.inl (hcfg ▸ hcapture))]
    have hnone : ∀ o, isReport o = false → o ≠ .fail info.cause info → o ≠ .halt info.cause →
        o ∉ u.out ++ [.fail info.cause info, .halt info.cause] := fun o hr hf hh ho => by
      rcases List.mem_append.mp ho with ho | ho
      · rw [hout o ho] at hr; cases hr
      · rcases List.mem_pair.mp ho with h | h
        · exact hf h
        · exact hh h
    exact ⟨hnone _ rfl nofun nofun, hnone _ rfl nofun nofun, nofun⟩

/-! ### A live run goes on (R288) -/

/-- On a live link a recoverable failure resynchronises. -/
theorem takeFailure_not_halted {info : FailInfo} {u : State} (hlive : u.cfg.isLive = true) (h : info.cause.recoverable = true) :
    (takeFailure info u).ph ≠ .halted := by
  rw [takeFailure_live hlive h]
  exact nofun

theorem frameEnd_not_halted {s t : State} {d : Dir} (hlive : s.cfg.isLive = true) (h : FrameEnd s d t) : t.ph ≠ .halted := by
  cases h with
  | handedOver => exact nofun
  | ended => exact nofun
  | mismatched => exact takeFailure_not_halted hlive rfl
  | unsupported => exact takeFailure_not_halted hlive rfl
  | skipped => cases d <;> exact nofun

theorem systemStep_not_halted {s t : State} {ev : InEvent} (hlive : s.cfg.isLive = true) (hph : s.ph ≠ .halted)
    (hmay : platformMay s ev = true) (hev : ev ≠ .ioErr) (h : SystemStep s ev t) : t.ph ≠ .halted := by
  cases h with
  | reset => exact nofun
  | halted => exact hph
  | quietIgnored => exact hph
  | shortIgnored => exact hph
  | returned => exact nofun
  | ioError => exact absurd rfl hev
  | syncLost hsearch => simp [platformMay, hlive, hsearch] at hmay
  | shortRead => exact takeFailure_not_halted hlive rfl

/-- Settles O59: of the failures, a platform that keeps its contract on a live link brings about only those with a live branch. -/
theorem liveRunGoesOn : Obligations.LiveRunGoesOn := by
  intro s t ev rest hlive hph hinp hmay hev hstep
  cases anyStep_of_step hstep with
  | waits => exact hph
  | system hi h =>
    rw [hinp] at hi
    cases hi
    exact systemStep_not_halted (s := { s with inp := _, out := [] }) hlive hph hmay hev h
  | absorbed _ hhalt => exact absurd hhalt hph
  | rearmed => exact hph
  | collected _ _ h =>
    obtain ⟨_, _, _, _, _, _, _, rfl, hmode, -⟩ := h
    exact not_halted_of_synced hmode
  | executed _ _ hu ht =>
    obtain ⟨-, hcfg, -⟩ := taken_reports rfl hu
    exact frameEnd_not_halted (hcfg ▸ hlive) ht

end Sys2Proof.Machine
